-- ==== Sys2Proof/Word.lean ====
section
/-! DEFINITION. The byte and text types of the JT460: console bytes, texts as lists of character codes,
and the radio's symbol numbers. -/
namespace Sys2Proof

/-- One byte on a console port (R180), or one character code of a text. -/
abbrev Byte := BitVec 8

/-- The 16-bit check word of R4 and R180. -/
abbrev Check := BitVec 16

/-- A text or a code as the part keeps it: upper-case character codes, line end as 0x0A (R180).
A blank code is the empty list. -/
abbrev Text := List Byte

/-- A symbol of the air alphabet by its number, 0 to 55 (R1). -/
abbrev Symbol := Nat

/-- The byte whose value is the number modulo 256. -/
def byte (n : Nat) : Byte := BitVec.ofNat 8 n

end Sys2Proof
end

