-- ==== Sys2Proof/Syntax.lean ====
section
/-! DEFINITION. The 94 steps of spec/opcode_table.json, one constructor per row, with the operands the
step takes from outside the part. -/
namespace Sys2Proof

/-- R179: the three console ports. -/
inductive Port | a | b | c
  deriving DecidableEq, Repr

/-- R12: the two receiver paths. -/
inductive Path | transceiver | watch
  deriving DecidableEq, Repr

/-- R20: a clock reading. A reading given by a master may hold numbers out of range; R25 tests them. -/
structure Reading where
  year   : Nat
  month  : Nat
  day    : Nat
  hour   : Nat
  minute : Nat
  second : Nat
  deriving DecidableEq, Repr

/-- R179: STRAP1 and STRAP0 of each port, 00 NONE, 01 BRIDGE, 10 RADIO, 11 CATCH. -/
structure Straps where
  a : BitVec 2
  b : BitVec 2
  c : BitVec 2
  deriving DecidableEq, Repr

/-- R27, R90: a position given by a master, with an optional fix reading. -/
structure GivenPosition where
  lat : Int
  lon : Int
  fix : Option Reading
  deriving DecidableEq, Repr

/-- R90: the form in which a haul's position is given. -/
inductive PositionForm
  | given (p : GivenPosition)
  | current
  | absent
  deriving DecidableEq, Repr

/-- R89: the haul content that HADD and HAMD carry. -/
structure HaulContent where
  first   : Option Reading
  last    : Option Reading
  pos     : PositionForm
  gear    : Byte
  species : List (Text × Nat)
  deriving DecidableEq, Repr

/-- R33: the fields CHWR writes; `role` is the wire value of R181. -/
structure ChannelFields where
  valid   : Bool
  role    : Nat
  freq    : Nat
  station : Text
  floor   : Nat
  deriving DecidableEq, Repr

/-- R146: the fields SKWR writes; `subjects` are letters as given, `start` is HHMM. -/
structure WindowFields where
  enabled   : Bool
  channel   : Nat
  start     : Nat
  duration  : Nat
  every     : Nat
  mandatory : Bool
  subjects  : List Byte
  areas     : List Nat
  deriving DecidableEq, Repr

/-- One constructor per row of spec/opcode_table.json. -/
inductive Instr
  -- supplies and resets
  | vmainLoss
  | backupLoss
  | resetAssert
  | warmReset (straps : Straps)
  | coldStart (straps : Straps)
  -- time
  | clockSecond
  /-- the FREF cycles counted in the second, and whether they were present throughout it -/
  | referenceCheck (cycles : Nat) (present : Bool)
  | clockMinute
  | scoreDecay
  | expirySweep
  | retryAfterExpiry (slot : Nat)
  | checkTimerExpiry
  | silencePeriodExpiry
  -- transceiver
  | revoke
  | settleEnd
  | transmissionCompleted
  | keySenseRise
  | keySenseFall
  | keyNoResponse
  | keyStuck
  | carrierEnd
  -- scanner, level sampler, watch receiver
  | scanDwellEnd
  | levelConversionEnd (result : Byte)
  | watchSettleEnd
  | watchDwellEnd
  | watchHoldExpiry
  -- reception
  | phasingHeard (path : Path)
  | turnReceived (path : Path)
  | clearReceived (path : Path)
  | lossOfLock (path : Path)
  | trackerPhaseCorrection (path : Path) (error : Int) (units : Nat)
  /-- the groups of eight units up to and with the one that ends the frame -/
  | frameRecord (path : Path) (groups : List Byte)
  -- waits of the link and bulletin engines
  | answerWaitExpiry
  | phasingWaitExpiry
  | turnWaitExpiry
  | symbolWaitExpiry
  -- distress
  | distressKeyPress
  | distressKeyRelease
  | keyHoldExpiry
  | repeatIntervalExpiry
  | cancelWindowExpiry
  | cancelRetryExpiry
  | testReplyWaitExpiry
  -- alarm
  | cadencePeriodEnd
  -- console ports
  /-- the bytes of one transfer, up to the release of SEL -/
  | badFrame (port : Port) (bytes : List Byte)
  | overrun (port : Port) (data : Byte)
  | responseRead (port : Port)
  -- console commands
  | tset (port : Port) (reading : Reading)
  | tget (port : Port)
  /-- the set form, or `none` for the clear form -/
  | posn (port : Port) (form : Option GivenPosition)
  | pget (port : Port)
  | ship (port : Port) (vessel home : Text) (interval : Nat)
  | chrd (port : Port) (index : Nat) (hold : Bool)
  | chwr (port : Port) (index : Nat) (fields : ChannelFields)
  | tune (port : Port) (index duration : Nat)
  | fack (port : Port)
  | fclr (port : Port)
  | dopn (port : Port) (cls : Nat) (dest : Text)
  | dapp (port : Port) (slot : Nat) (chars : Text)
  | ddis (port : Port) (slot : Nat)
  | mred (port : Port) (slot offset count : Nat) (part : Option Nat)
  | list (port : Port) (slot : Nat)
  | mrkr (port : Port) (slot : Nat)
  | mdel (port : Port) (slot : Nat)
  | hadd (port : Port) (content : HaulContent)
  | hred (port : Port) (haul mode : Nat) (hold : Bool)
  | hamd (port : Port) (haul : Nat) (content : HaulContent)
  | hdel (port : Port) (haul : Nat)
  | trip (port : Port) (number : Nat)
  | totl (port : Port) (start : Nat)
  | crep (port : Port) (dest : Text)
  | dque (port : Port) (slot : Nat)
  | qexp (port : Port) (slot : Nat)
  | qwdr (port : Port) (slot : Nat)
  | qlst (port : Port) (position : Nat)
  | skrd (port : Port) (index : Nat) (hold : Bool)
  | skwr (port : Port) (index : Nat) (fields : WindowFields)
  | dalr (port : Port) (nature : Byte)
  | dtst (port : Port)
  | dcan (port : Port)
  | dcnf (port : Port)
  | dcls (port : Port)
  | hack (port : Port) (vessel : Text) (number : Nat)
  | hlst (port : Port) (position : Nat)
  | note (port : Port)
  | mask (port : Port) (classes : BitVec 16)
  | stat (port : Port) (line : Nat)
  | prst (port : Port)
  | asil (port : Port)
  -- steps within a symbol, a transmission, a cadence and a response
  | symbolGroup (path : Path) (units : Byte)
  | lineTransition (path : Path) (error : Int) (units : Nat)
  | symbolSent
  | cadenceOnPartEnd
  | responseTransferReleased (port : Port)
  deriving DecidableEq, Repr

end Sys2Proof
end

