-- ==== Sys2Proof/Decode.lean ====
section
/-! DEFINITION. The words of spec/opcode_table.json: the table gives none of its rows any bits. -/
namespace Sys2Proof

/-- No row of the table gives bits ("fields": [] for each), so no word spells a step. The byte frames
of R180 and R181, which the part does define, are read in Sys2Proof/Machine/Operands.lean. -/
def decodeTableWord (_nbits _w : Nat) : Option Instr := none

end Sys2Proof
end

