-- ==== Sys2Proof/Config.lean ====
section
/-! DEFINITION. The lengths, sizes and limits the manual fixes, and the free values it leaves open. -/
namespace Sys2Proof.Config

/-- R54: settle after a tune, ms. -/
def settleMs : Nat := 300
/-- R58: release limit, ms. -/
def releaseLimitMs : Nat := 1500
/-- R112: retry-after, elapsed seconds. -/
def retryAfterSec : Nat := 900
/-- R45: watch dwell, elapsed seconds. -/
def watchDwellSec : Nat := 2
/-- R177: silence period, elapsed seconds. -/
def silenceSec : Nat := 900
/-- R69: slots of the message store. -/
def slots : Nat := 64
/-- R69: pages of the message store. -/
def pages : Nat := 512
/-- R69: characters to a page. -/
def pageChars : Nat := 64
/-- R71: the longest text a record holds. -/
def maxText : Nat := 8192
/-- R106: entries of the outbound queue. -/
def queueMax : Nat := 48
/-- R87: hauls of the log. -/
def logMax : Nat := 96
/-- R88: species of the trip totals table. -/
def speciesMax : Nat := 32
/-- R31: entries of the channel table. -/
def channels : Nat := 24
/-- R31: characters of an entry's station code. -/
def stationChars : Nat := 4
/-- R144: windows of the schedule. -/
def windows : Nat := 16
/-- R175: entries of the heard list. -/
def heardMax : Nat := 8
/-- R180: data bytes of a response at most. -/
def maxData : Nat := 246
/-- Hand-offs between blocks worked off within one step at most (log 8). -/
def cascade : Nat := 4096

/-- FREE VALUE (log 9): the millisecond within the elapsed second at which something happens.
R50 gives times to the millisecond, and no row of the table tells milliseconds. -/
opaque subSecond : Nat → Fin 1000

/-- FREE VALUE (log 10): whether a mean of sixteen errors that stands halfway between two eighths is
taken to the later one. R38 says "rounded to the nearest eighth". -/
opaque meanTieLater : Nat → Bool

/-- FREE VALUE (log 11): what the elapsed-seconds count shows one second after its largest value.
R21 gives the range only. -/
opaque elapsedAfterMax : Nat → BitVec 32

end Sys2Proof.Config
end

