-- ==== Sys2Proof/Machine/State.lean ====
section
/-! DEFINITION. Everything the manual gives the part to hold, as plain data, and its value at the end of
a cold start (R18). Field names follow the chapters. -/
namespace Sys2Proof.Machine

/-- No step of the part stops with a fault: what the manual calls a fault (a key fault, an overrun) is
state. No constructor, so nothing raises one (safe). -/
inductive Fault
  deriving DecidableEq, Repr

/-- Why a step has no meaning. -/
inductive Refusal
  /-- Raised by an arm of `exec` whose row has no meaning yet (safe: the model stops). -/
  | notModelled (mnemonic : String)
  deriving DecidableEq, Repr

/-! ## Supplies, pins, time (chapter 2) -/

/-- R16. -/
inductive Marker | valid | invalid
  deriving DecidableEq, Repr

/-- R21: an expiry of an interval of the retained domain that fell while the part was stopped. -/
inductive HeldExpiry
  | scoreDecay
  | expirySweep
  | retryAfter (slot : Nat)
  | checkTimer
  | silencePeriod
  deriving DecidableEq, Repr

/-- R15 to R17: whether VMAIN is present, whether RESET is asserted, the marker, the held expiries. -/
structure Supply where
  vmain     : Bool
  resetHeld : Bool
  marker    : Marker
  held      : List HeldExpiry
  deriving DecidableEq, Repr

/-- Input lines whose level the part looks at: straps as sampled, key sense, distress push-button. -/
structure Pins where
  straps : Straps
  ksns   : Bool
  dbtn   : Bool
  deriving DecidableEq, Repr

/-- R24, in its order. -/
inductive TimeState | unset | holdover | locked
  deriving DecidableEq, Repr

/-- R22: a clock reading with the time state at that moment. -/
structure Stamp where
  reading : Reading
  state   : TimeState
  deriving DecidableEq, Repr

/-- R20, R21, R23, R24. `minute` is a clock minute (R22) the bulletin engine has not taken yet. -/
structure Timebase where
  reading   : Reading
  state     : TimeState
  elapsed   : BitVec 32
  good      : Nat
  bad       : Nat
  qualified : Bool
  minute    : Option Reading
  deriving DecidableEq, Repr

/-- R27. -/
structure PositionRecord where
  valid : Bool
  lat   : Int
  lon   : Int
  fix   : Stamp
  deriving DecidableEq, Repr

/-- R29. -/
structure Identity where
  vessel     : Text
  home       : Text
  interval   : Nat
  trip       : Nat
  nextMsg    : Nat
  nextReport : Nat
  deriving DecidableEq, Repr

/-! ## Channel table, receive paths, scanner, watch receiver (chapters 1 and 3) -/

/-- R31. -/
inductive ChannelRole | traffic | broadcast | distress
  deriving DecidableEq, Repr

/-- R31: one entry of the channel table. -/
structure Channel where
  valid   : Bool
  role    : ChannelRole
  freq    : Nat
  station : Text
  floor   : Nat
  score   : Int
  poor    : Bool
  last    : Option Nat
  smooth  : Option Nat
  scanned : Option Stamp
  good    : Option Stamp
  deriving DecidableEq, Repr

/-- R3: what the decoder makes of eight units: a symbol, or a weight error. -/
inductive Group
  | sym (n : Symbol)
  | err
  deriving DecidableEq, Repr

/-- R9. -/
inductive Family | link | bulletin | alert
  deriving DecidableEq, Repr

/-- R11. -/
inductive Verdict | good | bad | damaged
  deriving DecidableEq, Repr

/-- R11, R12. -/
inductive Reason | weight | form | check
  deriving DecidableEq, Repr

/-- R12: the frame record handed to the holder of a path. The path is named where it is delivered. -/
structure FrameRec where
  family   : Family
  verdict  : Verdict
  reason   : Option Reason
  kind     : Option Symbol
  sequence : Option Nat
  payload  : List Group
  check    : Option Nat
  received : Stamp
  deriving DecidableEq, Repr

/-- R37 to R39: the timing tracker of a path. Edges and boundary are positions in eighths of a unit,
modulo one unit and one symbol. -/
structure Tracker where
  locked   : Bool
  edge     : Nat
  boundary : Nat
  history  : List Int
  errRun   : Nat
  runUnits : Nat
  runOver  : Nat
  longRuns : Nat
  deriving DecidableEq, Repr

/-- One receiver path: tracker, phasing run (R6), clear-pending flag (R7), frame assembler (R10:
`none` is HUNT, `some body` is IN_FRAME). -/
structure RxPath where
  tracker  : Tracker
  phasing  : Nat
  lastPhase : Option Symbol
  clearPending : Bool
  body     : Option (List Group)
  deriving DecidableEq, Repr

/-- R41. -/
inductive LevelInput | rlvl | wlvl
  deriving DecidableEq, Repr

/-- R41: the cause of a conversion; a scan dwell carries its phasing-heard flag. -/
inductive LevelCause
  | frameClose
  | scanDwell (phasing : Bool)
  | watchDwell
  deriving DecidableEq, Repr

/-- R41: the conversion record. -/
structure Conversion where
  input : LevelInput
  entry : Nat
  cause : LevelCause
  void  : Bool
  deriving DecidableEq, Repr

/-- R42. -/
inductive ScanState | idle | claiming | dwelling
  deriving DecidableEq, Repr

/-- R42, R43: the scanner; `extended` while a dwell is in its extension. -/
structure Scanner where
  state   : ScanState
  last    : Option Nat
  current : Option Nat
  phasing : Bool
  releasePending : Bool
  extended : Bool
  deriving DecidableEq, Repr

/-- R45. -/
inductive WatchState | idle | settling | dwelling | held
  deriving DecidableEq, Repr

/-- R45: the watch receiver, with its tuning word. `since` is the elapsed-seconds reading at the tune that started the dwell
interval (R47, log 51). -/
structure WatchRx where
  state   : WatchState
  entry   : Option Nat
  blanked : Bool
  word    : Nat
  since   : BitVec 32
  deriving DecidableEq, Repr

/-! ## Transceiver (chapter 4) -/

/-- R48, in the order of priority. -/
inductive Claimant | distress | bulletinMandatory | link | tune | bulletinOrdinary | scan
  deriving DecidableEq, Repr

/-- R50. -/
inductive Phase | rx | tx | settling
  deriving DecidableEq, Repr

/-- R50: the grant record. The arbiter is RELEASING exactly while `request` (the time of the release
request, in milliseconds of elapsed time) is present. -/
structure Grant where
  holder  : Claimant
  channel : Option Nat
  phase   : Phase
  request : Option Nat
  deriving DecidableEq, Repr

/-- R48, R66: what a TUNE claim carries. -/
structure TuneClaim where
  entry    : Nat
  duration : Nat
  deriving DecidableEq, Repr

/-- R50: FREE when `grant` is none. -/
structure Arbiter where
  grant   : Option Grant
  waiting : List Claimant
  tune    : Option TuneClaim
  deriving DecidableEq, Repr

/-- R2, R54: the channel frequency the transceiver was last tuned to, and whether the unit on air is a
space unit (the tuning word is then 2 lower). -/
structure Tuner where
  freq  : Nat
  space : Bool
  deriving DecidableEq, Repr

/-- R14, R56: the transmit path. IDLE when `list` is empty; the head of `list` is the symbol on air, and `unit` (0 to
7) the unit of it on air. -/
structure TxPath where
  list     : List Symbol
  unit     : Nat
  sent     : Nat
  inFrame  : Bool
  heldBack : Bool
  deriving DecidableEq, Repr

/-- R60. -/
inductive KeyState | quiet | rising | keyed | falling | stuck
  deriving DecidableEq, Repr

/-- R60, R61. -/
inductive KeyFaultKind | noResponse | stuck
  deriving DecidableEq, Repr

/-- R61: a fault entry. -/
structure FaultEntry where
  kind    : KeyFaultKind
  time    : Stamp
  holder  : Option Claimant
  channel : Option Nat
  deriving DecidableEq, Repr

/-- R62. -/
inductive FaultState | none | pending | lockout
  deriving DecidableEq, Repr

/-- R62. -/
structure FaultRecord where
  state   : FaultState
  first   : Option FaultEntry
  second  : Option FaultEntry
  count   : Nat
  deriving DecidableEq, Repr

/-! ## Message store (chapter 5) -/

/-- R72. -/
inductive MsgClass | urgent | catch_ | routine
  deriving DecidableEq, Repr

/-- R72. -/
inductive OutState | draft | queued | sending | delivered | failed
  deriving DecidableEq, Repr

/-- R72. -/
inductive FailReason | busy | noAnswer | linkLost | notHeldLimit
  deriving DecidableEq, Repr

/-- R72: the fields of an OUTBOUND record. `retry` is the elapsed-seconds reading at which the
retry-after running on its entry was started (R112). A catch report is a record with hauls (R106). -/
structure Outbound where
  state    : OutState
  cls      : MsgClass
  dest     : Text
  msg      : Option Nat
  resume   : Nat
  attempts : Nat
  retry    : Option (BitVec 32)
  failure  : Option FailReason
  hauls    : List Nat
  text     : Text
  pages    : List Nat
  deriving DecidableEq, Repr

/-- R73. -/
inductive Addressee | bridge | radio | catch_ | all
  deriving DecidableEq, Repr

/-- R73. -/
inductive InState | receiving | complete | incomplete
  deriving DecidableEq, Repr

/-- R73: the fields of an INBOUND record. -/
structure Inbound where
  state    : InState
  coastMsg : Option Nat
  addressee : Addressee
  declared : Option Nat
  read     : Bool
  noHeader : Bool
  text     : Text
  pages    : List Nat
  deriving DecidableEq, Repr

/-- R74: the key of a bulletin. -/
structure BulletinKey where
  office  : Text
  subject : Byte
  area    : Nat
  day     : Nat
  hour    : Nat
  deriving DecidableEq, Repr

/-- R74: a part entry. -/
structure PartEntry where
  number   : Nat
  damaged  : Nat
  received : Stamp
  text     : Text
  pages    : List Nat
  deriving DecidableEq, Repr

/-- R74: the fields of a BULLETIN record. `expiry` is a clock reading, held as seconds from
2000-01-01 00:00:00 so that it may lie outside the range of the clock. -/
structure Bulletin where
  key    : BulletinKey
  count  : Nat
  parts  : List PartEntry
  expiry : Int
  deriving DecidableEq, Repr

/-- R71: the kind of a record, with its own fields. -/
inductive Body
  | outbound (o : Outbound)
  | inbound (i : Inbound)
  | bulletin (b : Bulletin)
  deriving DecidableEq, Repr

/-- R71: a message record. -/
structure Record where
  origin  : Option Port
  created : Stamp
  body    : Body
  deriving DecidableEq, Repr

/-- R74: the open part record. -/
structure OpenPart where
  key     : BulletinKey
  number  : Nat
  count   : Nat
  damaged : Nat
  text    : Text
  pages   : List Nat
  received : Option Stamp
  deriving DecidableEq, Repr

/-- R69, R70, R74, R76, R77. `low` is the low-space watch in LOW. -/
structure Store where
  slots   : List (Option Record)
  free    : List Nat
  age     : List Nat
  part    : Option OpenPart
  low     : Bool
  evicted : Nat
  expired : Nat
  deleted : Nat
  deriving DecidableEq, Repr

/-! ## Haul log (chapter 6) -/

/-- R87. -/
inductive HaulState | unreported | reporting | reported
  deriving DecidableEq, Repr

/-- R87, R90. -/
inductive HaulPosition
  | present (lat lon : Int) (fix : Stamp)
  | pending
  | absent
  deriving DecidableEq, Repr

/-- R87. -/
structure Haul where
  number  : Nat
  state   : HaulState
  cor     : Bool
  first   : Stamp
  last    : Stamp
  pos     : HaulPosition
  gear    : Byte
  species : List (Text × Nat)
  report  : Option Nat
  origin  : Port
  deriving DecidableEq, Repr

/-- R88. -/
structure SpeciesTotal where
  code    : Text
  total   : Nat
  carried : Nat
  deriving DecidableEq, Repr

/-- R101. -/
structure OpenReport where
  report : Nat
  slot   : Nat
  msg    : Nat
  hauls  : List Nat
  deriving DecidableEq, Repr

/-- R87, R88, R101. -/
structure HaulLog where
  hauls   : List Haul
  next    : Option Nat
  totals  : List SpeciesTotal
  reports : List OpenReport
  deriving DecidableEq, Repr

/-! ## Outbound queue and inbound side (chapter 7) -/

/-- R116: the check timer: when it was started, and for how many seconds. -/
structure CheckTimer where
  start : BitVec 32
  secs  : Nat
  deriving DecidableEq, Repr

/-- R106, R116. -/
structure OutQueue where
  entries  : List Nat
  timer    : Option CheckTimer
  lastHome : BitVec 32
  request  : Option Text
  deriving DecidableEq, Repr

/-- R117. -/
inductive InMode | header | body | raw
  deriving DecidableEq, Repr

/-- R117. -/
structure InboundSide where
  mode      : InMode
  buffer    : Text
  current   : Option Nat
  discarded : Nat
  deriving DecidableEq, Repr

/-! ## Traffic link (chapter 8) -/

/-- R123. -/
inductive LinkState | idle | waitGrant | settling | calling | sendBurst | awaitReply | clearing
  deriving DecidableEq, Repr

/-- R123: kinds of sequenced ship frames. -/
inductive SeqKind | m | d | p
  deriving DecidableEq, Repr

/-- R123: an entry of the outstanding list. -/
structure Outstanding where
  seq    : Nat
  kind   : SeqKind
  slot   : Nat
  offset : Nat
  count  : Nat
  sends  : Nat
  deriving DecidableEq, Repr

/-- R123: the link state record. After the fields of R123: the three waits running or not; `cut`, where
cutting of D frames goes on, and `mDue`, the M frame still to be made (R130); `placed`, the owed
receipts the burst on air carries (R131). `ending` is set when the abandonment of R140 is being carried out. -/
structure Link where
  state      : LinkState
  station    : Option Text
  order      : List Nat
  channel    : Option Nat
  index      : Nat
  callTry    : Nat
  connected  : Bool
  sendNext   : Nat
  recvNext   : Nat
  outstanding : List Outstanding
  current    : Option Nat
  requests   : Nat
  notHeld    : Nat
  setAside   : List Nat
  silent     : Nat
  quiet      : Nat
  owed       : List (Nat × Bool)
  replies    : List FrameRec
  ending     : Bool
  answerWait : Bool
  phasingWait : Bool
  turnWait   : Bool
  cut        : Nat
  mDue       : Bool
  placed     : Nat
  deriving DecidableEq, Repr

/-! ## Bulletins (chapter 9) -/

/-- R144. -/
inductive WindowState | idle | due | active
  deriving DecidableEq, Repr

/-- R144. The span is held as seconds from 2000-01-01 00:00:00, start and end, while DUE or ACTIVE. -/
structure Window where
  enabled   : Bool
  channel   : Nat
  start     : Nat
  duration  : Nat
  every     : Nat
  mandatory : Bool
  subjects  : List Byte
  areas     : List Nat
  state     : WindowState
  missed    : Nat
  span      : Option (Int × Int)
  deriving DecidableEq, Repr

/-- R153: the reception state, from SETTLED until the grant ends. -/
inductive Reception
  | hunt
  | open_ (expected taken : Nat)
  deriving DecidableEq, Repr

/-- R149, R153, R159. -/
structure BulletinEngine where
  claim     : Option Nat
  recv      : Option Reception
  stored    : Nat
  duplicate : Nat
  filtered  : Nat
  inferior  : Nat
  dropped   : Nat
  empty     : Nat
  overlong  : Nat
  deriving DecidableEq, Repr

/-! ## Distress (chapter 10) -/

/-- R160. -/
inductive AlertState
  | none | arming | testing | active | acknowledged | cancelPending | cancelling
  deriving DecidableEq, Repr

/-- R160. `ret` and `armRet` say whether the return state is the second of its two names
(ACKNOWLEDGED, TESTING). `repeatOn`, `retryOn` and `testWait`: the repeat interval, the cancel retry
and the test reply wait run. -/
structure OwnAlert where
  state     : AlertState
  number    : Nat
  nature    : Byte
  cycles    : Nat
  noChannel : Bool
  requester : Option Port
  ret       : Option Bool
  armRet    : Option Bool
  ackCoast  : Option Text
  testCoast : Option Text
  repeatOn  : Bool
  retryOn   : Bool
  testWait  : Bool
  deriving DecidableEq, Repr

/-- R167. -/
inductive CycleKind | alert | test | cancel
  deriving DecidableEq, Repr

/-- R167. -/
inductive CyclePhase | waitGrant | settling | sending
  deriving DecidableEq, Repr

/-- R167. -/
inductive PendingAction
  | end_
  | cycle (k : CycleKind)
  deriving DecidableEq, Repr

/-- R167: the cycle record of a cycle in progress. -/
structure Cycle where
  kind     : CycleKind
  channels : List Nat
  pos      : Nat
  phase    : CyclePhase
  action   : Option PendingAction
  deriving DecidableEq, Repr

/-- R175. -/
inductive HeardState | active | acknowledged | cancelled
  deriving DecidableEq, Repr

/-- R175. `relay` is the coast code of a RELAY source, none for DIRECT. Position and fix time stand as
the 14 and 4 characters of R162. -/
structure Heard where
  vessel : Text
  number : Nat
  relay  : Option Text
  state  : HeardState
  nature : Option Byte
  pos    : Option Text
  fix    : Option Text
  first  : Stamp
  last   : Stamp
  times  : Nat
  acked  : Bool
  deriving DecidableEq, Repr

/-- R174. -/
structure HeardCounts where
  malformed : Nat
  tests     : Nat
  overflow  : Nat
  deriving DecidableEq, Repr

/-- R177. `since` is the elapsed-seconds reading at which the period running was started. -/
structure Silence where
  running : Bool
  coast   : Option Text
  since   : BitVec 32
  deriving DecidableEq, Repr

/-! ## Console ports and alarm (chapter 11) -/

/-- R179. -/
inductive Role | none | bridge | radio | catch_
  deriving DecidableEq, Repr

/-- R179. -/
inductive PortState | ready | working | responding
  deriving DecidableEq, Repr

/-- R184: the record a hold names. -/
inductive HoldRef
  | haul (n : Nat)
  | channel (i : Nat)
  | window (i : Nat)
  deriving DecidableEq, Repr

/-- R179, R184. -/
structure Hold where
  ref  : HoldRef
  lost : Bool
  deriving DecidableEq, Repr

/-- R179: a formed response frame and the bytes of it clocked out in the transfer going on. -/
structure Response where
  bytes : List Byte
  out   : Nat
  deriving DecidableEq, Repr

/-- R179: a port context. Class number n of R185 stands at bit n of `noticed` and `mask`. -/
structure PortCtx where
  role     : Role
  state    : PortState
  overrun  : Bool
  hold     : Option Hold
  noticed  : BitVec 16
  mask     : BitVec 16
  response : Option Response
  deriving DecidableEq, Repr

/-- The three port contexts. -/
structure Ports where
  a : PortCtx
  b : PortCtx
  c : PortCtx
  deriving DecidableEq, Repr

/-- R188, in the order of priority. -/
inductive Cause | distressHeard | ownAlert | fault | warning
  deriving DecidableEq, Repr

/-- R188. -/
structure CauseFlags where
  active   : Bool
  silenced : Bool
  deriving DecidableEq, Repr

/-- R188. `running` and `next` are cadences, none for off; `onPart` says that the running cadence is
in the on part of its period. -/
structure Alarm where
  distressHeard : CauseFlags
  ownAlert : CauseFlags
  fault    : CauseFlags
  warning  : CauseFlags
  running  : Option Cause
  onPart   : Bool
  next     : Option Cause
  deriving DecidableEq, Repr

/-! ## Hand-offs between blocks -/

/-- An event one block hands another within a step (R49, R12, R24, R52, R107, R125). -/
inductive Signal
  | granted (c : Claimant)
  | settled (c : Claimant)
  | tuneRefused (c : Claimant)
  | blocked (c : Claimant)
  | keyed (c : Claimant)
  | completed (c : Claimant) (sent : Nat)
  | stopped (c : Claimant) (sent : Nat)
  | keyFault (c : Claimant)
  | releaseRequest (c : Claimant)
  | revoked (c : Claimant)
  | frame (p : Path) (holder : Option Claimant) (r : FrameRec)
  | phasing (p : Path) (holder : Option Claimant)
  | turn (p : Path) (holder : Option Claimant)
  | clear (p : Path) (holder : Option Claimant)
  | lockLost (holder : Option Claimant)
  | scanPhasingGone
  | scannerCheck
  | gateClosed
  | linkTest
  deriving DecidableEq, Repr

/-! ## The machine -/

/-- The state of the part. `pending` is the queue of steps to come, `signals` the hand-offs not yet
taken, `freeCount` the counter the free values of Config are applied to; these three are the model's own. `tstb` and
`wstb` are the pulses given on the strobe lines of the two tuning words (R2, R45, R54; log 48). -/
structure State where
  supply   : Supply
  pins     : Pins
  time     : Timebase
  position : PositionRecord
  ident    : Identity
  channels : List Channel
  trx      : RxPath
  watchPath : RxPath
  sampler  : Option Conversion
  scanner  : Scanner
  watch    : WatchRx
  arb      : Arbiter
  tuner    : Tuner
  tstb     : Nat
  wstb     : Nat
  tx       : TxPath
  monitor  : KeyState
  fault    : FaultRecord
  store    : Store
  log      : HaulLog
  queue    : OutQueue
  inbound  : InboundSide
  link     : Link
  windows  : List Window
  bull     : BulletinEngine
  own      : OwnAlert
  cycle    : Option Cycle
  frameBuf : List Symbol
  heard    : List Heard
  heardCounts : HeardCounts
  silence  : Silence
  ports    : Ports
  alarm    : Alarm
  signals  : List Signal
  freeCount : Nat
  pending  : List Instr
  deriving DecidableEq, Repr

/-! ## Reset values -/

/-- R18. -/
def Reading.cold : Reading := ⟨2000, 1, 1, 0, 0, 0⟩

def Stamp.zero : Stamp := ⟨⟨0, 0, 0, 0, 0, 0⟩, .unset⟩

/-- R18. -/
def Timebase.cold : Timebase :=
  { reading := Reading.cold, state := .unset, elapsed := 0, good := 0, bad := 0, qualified := false, minute := none }

/-- R27. -/
def PositionRecord.cold : PositionRecord := { valid := false, lat := 0, lon := 0, fix := Stamp.zero }

/-- R18, R29. -/
def Identity.cold : Identity :=
  { vessel := [], home := [], interval := 0, trip := 0, nextMsg := 1, nextReport := 1 }

/-- R31. -/
def Channel.cold : Channel :=
  { valid := false, role := .traffic, freq := 16000, station := [], floor := 0, score := 0, poor := false,
    last := none, smooth := none, scanned := none, good := none }

/-- R39; edges and boundary: log 7. -/
def Tracker.reset : Tracker :=
  { locked := false, edge := 0, boundary := 0, history := [], errRun := 0, runUnits := 0, runOver := 0, longRuns := 0 }

/-- R6, R7, R10, R39. -/
def RxPath.reset : RxPath :=
  { tracker := Tracker.reset, phasing := 0, lastPhase := none, clearPending := false, body := none }

/-- R42 gives the state, the last visited index and the release-pending flag. That no entry is current and that the flags
of a dwell are clear is the model's choice (log 52). -/
def Scanner.reset : Scanner :=
  { state := .idle, last := none, current := none, phasing := false, releasePending := false, extended := false }

/-- R50, R68. -/
def Arbiter.reset : Arbiter := { grant := none, waiting := [], tune := none }

/-- R14, R68. -/
def TxPath.reset : TxPath := { list := [], unit := 0, sent := 0, inFrame := false, heldBack := false }

/-- R62. -/
def FaultRecord.reset : FaultRecord := { state := .none, first := none, second := none, count := 0 }

/-- R86: cold start. -/
def Store.cold : Store :=
  { slots := List.replicate Config.slots none, free := List.range Config.pages, age := [], part := none,
    low := false, evicted := 0, expired := 0, deleted := 0 }

/-- R87, R88, R101: cold start. -/
def HaulLog.cold : HaulLog := { hauls := [], next := some 1, totals := [], reports := [] }

/-- R106, R116: cold start. -/
def OutQueue.cold : OutQueue := { entries := [], timer := none, lastHome := 0, request := none }

/-- R117. -/
def InboundSide.reset : InboundSide := { mode := .header, buffer := [], current := none, discarded := 0 }

/-- R123. -/
def Link.reset : Link :=
  { state := .idle, station := none, order := [], channel := none, index := 0, callTry := 0, connected := false,
    sendNext := 0, recvNext := 0, outstanding := [], current := none, requests := 0, notHeld := 0, setAside := [],
    silent := 0, quiet := 0, owed := [], replies := [], ending := false, answerWait := false, phasingWait := false,
    turnWait := false, cut := 0, mDue := false, placed := 0 }

/-- R144. -/
def Window.cold : Window :=
  { enabled := false, channel := 0, start := 0, duration := 1, every := 24, mandatory := false, subjects := [],
    areas := [1], state := .idle, missed := 0, span := none }

/-- R159. -/
def BulletinEngine.reset : BulletinEngine :=
  { claim := none, recv := none, stored := 0, duplicate := 0, filtered := 0, inferior := 0, dropped := 0,
    empty := 0, overlong := 0 }

/-- R160: the cold values; nature U is 0x55. -/
def OwnAlert.cold : OwnAlert :=
  { state := .none, number := 0, nature := 0x55#8, cycles := 0, noChannel := false, requester := none, ret := none,
    armRet := none, ackCoast := none, testCoast := none, repeatOn := false, retryOn := false, testWait := false }

/-- R174. -/
def HeardCounts.reset : HeardCounts := { malformed := 0, tests := 0, overflow := 0 }

/-- R177. -/
def Silence.cold : Silence := { running := false, coast := none, since := 0 }

/-- 00, R179: the role the straps STRAP1, STRAP0 give. -/
def Role.ofStraps (b : BitVec 2) : Role :=
  match b.toNat with
  | 0 => .none
  | 1 => .bridge
  | 2 => .radio
  | _ => .catch_

/-- R185: the default mask of a role. Class 0 is for all roles. -/
def Role.defaultMask : Role → BitVec 16
  | .none   => 0x0001#16
  | .bridge => 0x007F#16
  | .radio  => 0x3FFF#16
  | .catch_ => 0x1F01#16

/-- R187: a port as PRST leaves it, its role kept; READY with no response, as R179 has it at a reset. -/
def PortCtx.restarted (r : Role) : PortCtx :=
  { role := r, state := .ready, overrun := false, hold := none, noticed := 0x0001#16, mask := r.defaultMask,
    response := none }

/-- R179: every port restarted in the role its straps give. -/
def Ports.restarted (st : Straps) : Ports :=
  { a := PortCtx.restarted (Role.ofStraps st.a), b := PortCtx.restarted (Role.ofStraps st.b),
    c := PortCtx.restarted (Role.ofStraps st.c) }

def CauseFlags.off : CauseFlags := { active := false, silenced := false }

/-- R188. -/
def Alarm.reset : Alarm :=
  { distressHeard := CauseFlags.off, ownAlert := CauseFlags.off, fault := CauseFlags.off, warning := CauseFlags.off,
    running := none, onPart := false, next := none }

/-- The straps right after reset (log 5): A BRIDGE, B RADIO, C CATCH, the typical use of chapter 0. -/
def Straps.typical : Straps := { a := 1#2, b := 2#2, c := 3#2 }

/-- The part at the end of a cold start (R18) with key sense off and the push-button open: every block
at its reset value, every retained record at its cold value, the marker VALID. -/
def State.reset : State :=
  { supply := { vmain := true, resetHeld := false, marker := .valid, held := [] }
    pins := { straps := Straps.typical, ksns := false, dbtn := false }
    time := Timebase.cold
    position := PositionRecord.cold
    ident := Identity.cold
    channels := List.replicate Config.channels Channel.cold
    trx := RxPath.reset
    watchPath := RxPath.reset
    sampler := none
    scanner := Scanner.reset
    watch := { state := .idle, entry := none, blanked := false, word := 0, since := 0 }
    arb := Arbiter.reset
    tuner := { freq := 0, space := false }
    tstb := 0
    wstb := 0
    tx := TxPath.reset
    monitor := .quiet
    fault := FaultRecord.reset
    store := Store.cold
    log := HaulLog.cold
    queue := OutQueue.cold
    inbound := InboundSide.reset
    link := Link.reset
    windows := List.replicate Config.windows Window.cold
    bull := BulletinEngine.reset
    own := OwnAlert.cold
    cycle := none
    frameBuf := []
    heard := []
    heardCounts := HeardCounts.reset
    silence := Silence.cold
    ports := Ports.restarted Straps.typical
    alarm := Alarm.reset
    signals := []
    freeCount := 0
    pending := [] }

end Sys2Proof.Machine
end

