-- ==== Sys2Proof/Machine/Ops.lean ====
section
/-! DEFINITION. Operations every block uses: the calendar, texts, access to the parts of the state,
notices, hand-offs, the alarm and the holds. -/
namespace Sys2Proof.Machine

/-! ## Calendar (R20) -/

/-- R20: every year of the range that is divisible by 4 is a leap year. -/
def isLeap (year : Nat) : Bool := year % 4 == 0

def monthLengths (year : Nat) : List Nat :=
  [31, if isLeap year then 29 else 28, 31, 30, 31, 30, 31, 31, 30, 31, 30, 31]

/-- The length of month 1 to 12. -/
def monthLength (year month : Nat) : Nat := (monthLengths year).getD (month - 1) 0

/-- R25: the field checks of a reading. -/
def readingOk (r : Reading) : Bool :=
  decide (2000 ≤ r.year) && decide (r.year ≤ 2099) && decide (1 ≤ r.month) && decide (r.month ≤ 12) &&
  decide (1 ≤ r.day) && decide (r.day ≤ monthLength r.year r.month) && decide (r.hour ≤ 23) &&
  decide (r.minute ≤ 59) && decide (r.second ≤ 59)

/-- Days from 1996-01-01, the start of a four-year cycle. -/
def dayNumber (year month day : Nat) : Nat :=
  let y := year - 1996
  (y / 4) * 1461 + (y % 4) * 365 + (if y % 4 = 0 then 0 else 1) +
    ((monthLengths year).take (month - 1)).sum + (day - 1)

/-- A reading as seconds from 2000-01-01 00:00:00. -/
def instant (r : Reading) : Int :=
  ((dayNumber r.year r.month r.day : Int) - 1461) * 86400 + (r.hour * 3600 + r.minute * 60 + r.second : Nat)

/-- Month and day from a zero-based day of the year. -/
def monthAndDay : List Nat → Nat → Nat → Nat × Nat
  | [], d, m => (m, d + 1)
  | len :: rest, d, m => if d < len then (m, d + 1) else monthAndDay rest (d - len) (m + 1)

/-- The reading at a number of seconds from 2000-01-01 00:00:00, outside R20's range too (log 44). -/
def readingAt (i : Int) : Reading :=
  let n := (i + 1461 * 86400).toNat
  let d := n / 86400
  let s := n % 86400
  let r := d % 1461
  let year := 1996 + 4 * (d / 1461) + (if r < 366 then 0 else 1 + (r - 366) / 365)
  let md := monthAndDay (monthLengths year) (if r < 366 then r else (r - 366) % 365) 1
  ⟨year, md.1, md.2, s / 3600, s % 3600 / 60, s % 60⟩

/-- R20: the reading one second later, with a flag when the clock wraps past 2099. -/
def secondAfter (r : Reading) : Reading × Bool :=
  if r.second < 59 then ({ r with second := r.second + 1 }, false)
  else if r.minute < 59 then ({ r with second := 0, minute := r.minute + 1 }, false)
  else if r.hour < 23 then ({ r with second := 0, minute := 0, hour := r.hour + 1 }, false)
  else if r.day < monthLength r.year r.month then
    ({ r with second := 0, minute := 0, hour := 0, day := r.day + 1 }, false)
  else if r.month < 12 then
    ({ r with second := 0, minute := 0, hour := 0, day := 1, month := r.month + 1 }, false)
  else if r.year < 2099 then (⟨r.year + 1, 1, 1, 0, 0, 0⟩, false)
  else (Reading.cold, true)

/-! ## Texts (R180) -/

def isUpper (c : Byte) : Bool := decide (0x41 ≤ c.toNat) && decide (c.toNat ≤ 0x5A)
def isLower (c : Byte) : Bool := decide (0x61 ≤ c.toNat) && decide (c.toNat ≤ 0x7A)
def isDigit (c : Byte) : Bool := decide (0x30 ≤ c.toNat) && decide (c.toNat ≤ 0x39)

/-- R180: a lower-case letter is folded to its capital. -/
def foldChar (c : Byte) : Byte := if isLower c then byte (c.toNat - 32) else c

def foldText (t : Text) : Text := t.map foldChar

/-- R1, R180: the punctuation marks of the air alphabet, space first, in the order of symbols 36 to 48. -/
def marks : Text :=
  [0x20#8, 0x0A#8, 0x2E#8, 0x2C#8, 0x2D#8, 0x2F#8, 0x3F#8, 0x28#8, 0x29#8, 0x2B#8, 0x3D#8, 0x27#8, 0x3A#8]

/-- The position of the first element equal to `c`. -/
def indexIn {α : Type} [DecidableEq α] (c : α) : List α → Option Nat
  | [] => none
  | x :: rest => if x = c then some 0 else (indexIn c rest).map (· + 1)

/-- R1, R180: the text symbol of a folded character code. -/
def symbolOf (c : Byte) : Option Symbol :=
  if isUpper c then some (c.toNat - 0x41)
  else if isDigit c then some (26 + (c.toNat - 0x30))
  else (indexIn c marks).map (36 + ·)

/-- R1, R180: the character code of a text symbol, 0 to 48. -/
def charOf (n : Symbol) : Byte :=
  if n < 26 then byte (0x41 + n) else if n < 36 then byte (0x30 + (n - 26)) else marks.getD (n - 36) 0x3F#8

/-- R180: every code is one of the 49 text characters once folded. -/
def isText (t : Text) : Bool := (foldText t).all (fun c => (symbolOf c).isSome)

/-- Exactly four letters (station codes), after folding. -/
def isStation (t : Text) : Bool := decide (t.length = 4) && (foldText t).all isUpper

/-- R29, R162: one to seven letters and digits. -/
def isVessel (t : Text) : Bool :=
  decide (1 ≤ t.length) && decide (t.length ≤ 7) && (foldText t).all (fun c => isUpper c || isDigit c)

/-- Decimal digits without leading zeros; `fuel` bounds their number. -/
def decimalAux : Nat → Nat → Text → Text
  | 0, _, acc => acc
  | fuel + 1, n, acc =>
    let acc := byte (0x30 + n % 10) :: acc
    if n / 10 = 0 then acc else decimalAux fuel (n / 10) acc

/-- A number below 10^12 in decimal without leading zeros. -/
def decimal (n : Nat) : Text := decimalAux 12 n []

/-- The last `width` decimal digits of a number, with leading zeros. -/
def digits : Nat → Nat → Text
  | 0, _ => []
  | w + 1, n => digits w (n / 10) ++ [byte (0x30 + n % 10)]

/-- The value of decimal digits, none when one of them is no digit. -/
def valueOf (t : Text) : Option Nat :=
  t.foldl (fun acc c => acc.bind fun n => if isDigit c then some (n * 10 + (c.toNat - 0x30)) else none) (some 0)

/-- Lower-level text constants are written as characters of the manual. -/
def chars (l : List Char) : Text := l.map (fun c => byte c.toNat)

/-- Fields separated by single spaces. -/
def spaced : List Text → Text
  | [] => []
  | [t] => t
  | t :: rest => t ++ [0x20#8] ++ spaced rest

/-- The fields of a text at its single spaces. -/
def splitSpaces : Text → List Text
  | [] => [[]]
  | c :: rest =>
    if c = 0x20#8 then [] :: splitSpaces rest
    else match splitSpaces rest with
      | [] => [[c]]
      | t :: ts => (c :: t) :: ts

/-! ## Small arithmetic -/

/-- A count that saturates. -/
def satAdd (max n k : Nat) : Nat := if n + k ≤ max then n + k else max

/-- `n` divided by `k`, rounded up. -/
def ceilDiv (n k : Nat) : Nat := (n + k - 1) / k

/-! ## Access -/

/-- The part runs: VMAIN present and RESET not asserted (R15, R17). -/
def State.running (s : State) : Bool := s.supply.vmain && !s.supply.resetHeld

/-- The retained domain has power (R16). -/
def State.retained (s : State) : Bool := s.supply.vmain || decide (s.supply.marker = .valid)

/-- R22: the time stamp of this moment. -/
def State.stamp (s : State) : Stamp := ⟨s.time.reading, s.time.state⟩

/-- The clock reading of this moment, as seconds. -/
def State.clock (s : State) : Int := instant s.time.reading

/-- Elapsed seconds since an elapsed-seconds reading (R21). -/
def State.since (s : State) (start : BitVec 32) : Nat := (s.time.elapsed - start).toNat

/-- R21: by the elapsed count, an interval of this many seconds that was started at this reading can be running out now. The
last second may be counted just before the expiry or just after it, so one second short is enough (log 51). -/
def State.ranOut (s : State) (start : BitVec 32) (seconds : Nat) : Bool := decide (seconds ≤ s.since start + 1)

/-- One channel entry; an index outside the table reads as an entry not in use. -/
def State.channel (s : State) (i : Nat) : Channel := s.channels.getD i Channel.cold

def State.modChannel (s : State) (i : Nat) (f : Channel → Channel) : State :=
  { s with channels := s.channels.modify i f }

/-- One receiver path. -/
def State.path (s : State) : Path → RxPath
  | .transceiver => s.trx
  | .watch => s.watchPath

def State.setPath (s : State) (p : Path) (r : RxPath) : State :=
  match p with
  | .transceiver => { s with trx := r }
  | .watch => { s with watchPath := r }

/-- The record in a slot. -/
def Store.slot (st : Store) (n : Nat) : Option Record := st.slots.getD n none

def State.record (s : State) (n : Nat) : Option Record := s.store.slot n

def Store.setSlot (st : Store) (n : Nat) (r : Option Record) : Store := { st with slots := st.slots.set n r }

/-- Rewrites the OUTBOUND record in a slot; nothing when the slot holds none. -/
def State.modOutbound (s : State) (n : Nat) (f : Outbound → Outbound) : State :=
  match s.record n with
  | some r =>
    match r.body with
    | .outbound o => { s with store := s.store.setSlot n (some { r with body := .outbound (f o) }) }
    | .inbound _ => s
    | .bulletin _ => s
  | none => s

/-- The OUTBOUND record in a slot. -/
def State.outbound (s : State) (n : Nat) : Option Outbound :=
  match s.record n with
  | some ⟨_, _, .outbound o⟩ => some o
  | _ => none

def Window.get (ws : List Window) (i : Nat) : Window := ws.getD i Window.cold

def State.window (s : State) (i : Nat) : Window := Window.get s.windows i

def State.modWindow (s : State) (i : Nat) (f : Window → Window) : State :=
  { s with windows := s.windows.modify i f }

/-- One port context. -/
def State.port (s : State) : Port → PortCtx
  | .a => s.ports.a
  | .b => s.ports.b
  | .c => s.ports.c

def Ports.set (ps : Ports) (p : Port) (c : PortCtx) : Ports :=
  match p with
  | .a => { ps with a := c }
  | .b => { ps with b := c }
  | .c => { ps with c := c }

def State.setPort (s : State) (p : Port) (c : PortCtx) : State := { s with ports := s.ports.set p c }

/-- Every port context changed by a function of the port. -/
def State.mapPorts (s : State) (f : Port → PortCtx → PortCtx) : State :=
  { s with ports := { a := f .a s.ports.a, b := f .b s.ports.b, c := f .c s.ports.c } }

/-- A hand-off to another block, taken after those already posted (log 8). -/
def State.post (s : State) (g : Signal) : State := { s with signals := s.signals ++ [g] }

/-! ## Notices (R185) -/

/-- R185: the notice classes in their numbering. -/
inductive Notice
  | restarted | time | fault | distressHeard | ownAlert | silence | warning | bulletin
  | delivered | failed | inbound | haul | storeLow | missedWindow
  deriving DecidableEq, Repr

/-- R185: class number n at bit n. -/
def Notice.bit : Notice → BitVec 16
  | .restarted => 0x0001#16
  | .time => 0x0002#16
  | .fault => 0x0004#16
  | .distressHeard => 0x0008#16
  | .ownAlert => 0x0010#16
  | .silence => 0x0020#16
  | .warning => 0x0040#16
  | .bulletin => 0x0080#16
  | .delivered => 0x0100#16
  | .failed => 0x0200#16
  | .inbound => 0x0400#16
  | .haul => 0x0800#16
  | .storeLow => 0x1000#16
  | .missedWindow => 0x2000#16

/-- R185: the class becomes pending, masked or not. -/
def PortCtx.raise (c : PortCtx) (n : Notice) : PortCtx := { c with noticed := c.noticed ||| n.bit }

/-- R185: raises a class on the ports chosen by port and role. -/
def State.raiseOn (s : State) (n : Notice) (who : Port → Role → Bool) : State :=
  s.mapPorts fun p c => if who p c.role then c.raise n else c

def State.raiseAll (s : State) (n : Notice) : State := s.raiseOn n fun _ _ => true

/-- Raised on all ports but the issuing one. -/
def State.raiseOthers (s : State) (n : Notice) (p : Port) : State := s.raiseOn n fun q _ => decide (q ≠ p)

/-! ## Alarm (R188) -/

def Alarm.flags (a : Alarm) : Cause → CauseFlags
  | .distressHeard => a.distressHeard
  | .ownAlert => a.ownAlert
  | .fault => a.fault
  | .warning => a.warning

def Alarm.setFlags (a : Alarm) (c : Cause) (f : CauseFlags) : Alarm :=
  match c with
  | .distressHeard => { a with distressHeard := f }
  | .ownAlert => { a with ownAlert := f }
  | .fault => { a with fault := f }
  | .warning => { a with warning := f }

def CauseFlags.sounds (f : CauseFlags) : Bool := f.active && !f.silenced

/-- R188: the highest-priority cause that is active and not silenced, none for off. -/
def Alarm.loudest (a : Alarm) : Option Cause :=
  if a.distressHeard.sounds then some .distressHeard
  else if a.ownAlert.sounds then some .ownAlert
  else if a.fault.sounds then some .fault
  else if a.warning.sounds then some .warning
  else none

/-- R188: after each change the next cadence is recomputed; a running cadence that is off gives way to
it at once. -/
def Alarm.update (a : Alarm) : Alarm :=
  match a.running with
  | none => { a with next := a.loudest, running := a.loudest, onPart := a.loudest.isSome }
  | some _ => { a with next := a.loudest }

/-- R188: the owner of a cause reports its active state; a cause that becomes inactive has its silenced
flag cleared. -/
def Alarm.setActive (a : Alarm) (c : Cause) (on : Bool) : Alarm :=
  (a.setFlags c (if on then { a.flags c with active := true } else CauseFlags.off)).update

/-- R188: a new event makes its cause active and clears its silenced flag. -/
def Alarm.event (a : Alarm) (c : Cause) : Alarm :=
  (a.setFlags c { active := true, silenced := false }).update

def State.alarmActive (s : State) (c : Cause) (on : Bool) : State := { s with alarm := s.alarm.setActive c on }

def State.alarmEvent (s : State) (c : Cause) : State := { s with alarm := s.alarm.event c }

/-! ## Holds (R184) -/

/-- R184: what the hold test gives. -/
inductive HoldResult | noHold | lost | passed
  deriving DecidableEq, Repr

/-- R184: the hold test of a port on a record. -/
def PortCtx.holdTest (c : PortCtx) (r : HoldRef) : HoldResult :=
  match c.hold with
  | none => .noHold
  | some h => if h.ref = r then (if h.lost then .lost else .passed) else .noHold

def PortCtx.clearHold (c : PortCtx) : PortCtx := { c with hold := none }

/-- R184: sets the lost flag of a hold the condition names. -/
def PortCtx.loseHold (c : PortCtx) (which : HoldRef → Bool) : PortCtx :=
  match c.hold with
  | none => c
  | some h => if which h.ref then { c with hold := some { h with lost := true } } else c

/-- Sets a port's hold on a record, in place of any it had (R184). -/
def State.setHold (s : State) (p : Port) (r : HoldRef) : State :=
  s.setPort p { s.port p with hold := some ⟨r, false⟩ }

def State.clearHold (s : State) (p : Port) : State := s.setPort p (s.port p).clearHold

/-- The holds of every port the condition names are lost. -/
def State.loseHolds (s : State) (which : HoldRef → Bool) : State :=
  s.mapPorts fun _ c => c.loseHold which

/-- The holds of the other ports on a record are lost; the writing port's hold is cleared (R184). -/
def State.writtenBy (s : State) (p : Port) (r : HoldRef) : State :=
  (s.mapPorts fun q c => if q = p then c else c.loseHold fun x => decide (x = r)).clearHold p

/-! ## Free values -/

/-- Steps the counter the free values are applied to. -/
def State.drawn (s : State) : State := { s with freeCount := s.freeCount + 1 }

/-- R50: elapsed time in milliseconds; the part below a second is a free value (log 9). -/
def State.nowMs (s : State) : Nat := s.time.elapsed.toNat * 1000 + (Config.subSecond s.freeCount).val

end Sys2Proof.Machine
end

