-- ==== Sys2Proof/Machine/Flags.lean ====
section
/-! DEFINITION. What the part computes from its state: check words, POOR, the gate, the stale verdict, and
the levels of its output lines. -/
namespace Sys2Proof.Machine

/-! ## Check word (R4) -/

/-- R4: one shift of the register. -/
def crcShift (r : Check) : Check := if r.msb then (r <<< 1) ^^^ 0x1021#16 else r <<< 1

/-- R4: eight shifts. -/
def crcShifts : Nat → Check → Check
  | 0, r => r
  | n + 1, r => crcShifts n (crcShift r)

/-- R4: the byte is placed in the upper eight bits and added by exclusive-or, then shifted eight times. -/
def crcByte (r : Check) (b : Nat) : Check := crcShifts 8 (r ^^^ (BitVec.ofNat 16 b <<< 8))

/-- R4: the check word over bytes or symbol numbers. -/
def crc (bytes : List Nat) : Check := bytes.foldl crcByte 0xFFFF#16

/-! ## Score and POOR (R34, R35) -/

/-- R34: a change to a score saturates at −64 and +63. -/
def clampScore (i : Int) : Int := if i < -64 then -64 else if 63 < i then 63 else i

/-- R34: POOR after a change. -/
def poorAfter (score : Int) (before : Bool) : Bool :=
  if score ≤ -16 then true else if 0 ≤ score then false else before

/-- R34: a score event on one entry; an invalid entry discards it. -/
def Channel.scored (c : Channel) (change : Int) : Channel :=
  if c.valid then
    let score := clampScore (c.score + change)
    { c with score := score, poor := poorAfter score c.poor }
  else c

/-- R35: one step of decay toward 0. -/
def Channel.decayed (c : Channel) : Channel :=
  if c.score = 0 then c
  else
    let score := if 0 < c.score then c.score - 1 else c.score + 1
    { c with score := score, poor := poorAfter score c.poor }

def State.score (s : State) (entry : Nat) (change : Int) : State :=
  s.modChannel entry fun c => c.scored change

/-! ## Gate (R55) -/

/-- R55: the gate for LINK and TUNE is closed. -/
def State.gateClosed (s : State) : Bool :=
  decide (s.own.state ≠ .none) || s.silence.running || decide (s.fault.state = .lockout) ||
  decide (s.time.state ≠ .locked)

/-! ## Position reading (R28) -/

/-- R28: the stale verdict on a fix time. A fix later than the clock is 0 seconds old. -/
def State.staleFix (s : State) (fix : Stamp) : Bool :=
  decide (4 * 3600 < s.clock - instant fix.reading) ||
  (decide (fix.state = .unset) && decide (s.time.state ≠ .unset))

/-- R28: the stale verdict on the position record; none while the position is invalid. -/
def State.positionStale (s : State) : Option Bool :=
  if s.position.valid then some (s.staleFix s.position.fix) else none

/-! ## Lines -/

/-- R60: the key line is asserted. -/
def State.keyLine (s : State) : Bool :=
  s.running && (decide (s.monitor = .rising) || decide (s.monitor = .keyed))

/-- R185: a port's pending set and its mask have a class in common. -/
def PortCtx.attention (c : PortCtx) : Bool := decide (c.noticed &&& c.mask ≠ 0)

/-- R185: the attention line, deasserted while the part is stopped (R15). -/
def State.atn (s : State) (p : Port) : Bool := s.running && (s.port p).attention

/-- R182, R183: RDY is asserted in READY and in RESPONDING. -/
def State.rdy (s : State) (p : Port) : Bool := s.running && decide ((s.port p).state ≠ .working)

/-- R188: the sounder line. -/
def State.sndr (s : State) : Bool := s.running && s.alarm.running.isSome && s.alarm.onPart

/-- R2: the transceiver's tuning word, 2 lower for a space unit. -/
def State.tuneWord (s : State) : Nat := if s.tuner.space then s.tuner.freq - 2 else s.tuner.freq

/-! ## Arbiter (R50) -/

/-- R50. -/
inductive ArbState | free | granted | releasing
  deriving DecidableEq, Repr

/-- R50: the state of the arbiter, from its grant. -/
def Arbiter.state (a : Arbiter) : ArbState :=
  match a.grant with
  | none => .free
  | some g => if g.request.isSome then .releasing else .granted

def State.holder (s : State) : Option Claimant := s.arb.grant.map (·.holder)

/-- R50: the channel of the current grant. -/
def State.grantChannel (s : State) : Option Nat := s.arb.grant.bind (·.channel)

/-- R33, R50: the entry is the channel of the current grant. -/
def State.channelInUse (s : State) (i : Nat) : Bool := decide (s.grantChannel = some i)

/-- R48: priority, 1 the highest. -/
def Claimant.priority : Claimant → Nat
  | .distress => 1
  | .bulletinMandatory => 2
  | .link => 3
  | .tune => 4
  | .bulletinOrdinary => 5
  | .scan => 6

/-- R48: the claimant preempts the holder. -/
def Claimant.preempts (c holder : Claimant) : Bool :=
  match holder with
  | .scan => decide (c ≠ .scan)
  | .distress => false
  | .bulletinMandatory => decide (c = .distress)
  | .link | .tune | .bulletinOrdinary => decide (c = .distress) || decide (c = .bulletinMandatory)

/-- R48: the claimant has a claim, waiting or granted. -/
def State.hasClaim (s : State) (c : Claimant) : Bool :=
  decide (s.holder = some c) || decide (c ∈ s.arb.waiting)

/-! ## Ports (R182) -/

def isAny : Role → Bool := fun _ => true
/-- BRIDGE, RADIO and CATCH. -/
def isCrew : Role → Bool
  | .none => false
  | .bridge | .radio | .catch_ => true
def isBridgeRadio : Role → Bool
  | .bridge | .radio => true
  | .none | .catch_ => false
def isBridge : Role → Bool
  | .bridge => true
  | .none | .radio | .catch_ => false
def isRadio : Role → Bool
  | .radio => true
  | .none | .bridge | .catch_ => false
def isCatch : Role → Bool
  | .catch_ => true
  | .none | .bridge | .radio => false
def isCatchBridge : Role → Bool
  | .catch_ | .bridge => true
  | .none | .radio => false
def isCatchRadio : Role → Bool
  | .catch_ | .radio => true
  | .none | .bridge => false

end Sys2Proof.Machine
end

