-- ==== Sys2Proof/Machine/Air.lean ====
section
/-! DEFINITION. The air alphabet, frames as received and as sent (R1, R3, R5, R9, R11 to R13). -/
namespace Sys2Proof.Machine

/-! ## Alphabet -/

/-- R1: the units of symbols 0 to 55, first unit in the most significant bit. -/
def unitTable : List Nat :=
  [0x07, 0x0B, 0x0D, 0x0E, 0x13, 0x15, 0x16, 0x19, 0x1A, 0x1C, 0x23, 0x25, 0x26, 0x29, 0x2A, 0x2C] ++
  [0x31, 0x32, 0x34, 0x38, 0x43, 0x45, 0x46, 0x49, 0x4A, 0x4C, 0x51, 0x52, 0x54, 0x58, 0x61, 0x62] ++
  [0x64, 0x68, 0x70, 0x83, 0x85, 0x86, 0x89, 0x8A, 0x8C, 0x91, 0x92, 0x94, 0x98, 0xA1, 0xA2, 0xA4] ++
  [0xA8, 0xB0, 0xC1, 0xC2, 0xC4, 0xC8, 0xD0, 0xE0]

/-- R1: the eight units of a symbol. -/
def unitsOf (n : Symbol) : Byte := byte (unitTable.getD n 0)

/-- R3: the number of mark units of a group. -/
def markCount (u : Byte) : Nat := ((List.range 8).filter fun i => u.getLsbD i).length

/-- R3: a group of three marks is the symbol whose units match it; any other is a weight error. -/
def decodeUnits (u : Byte) : Group :=
  match indexIn u.toNat unitTable with
  | some n => .sym n
  | none => .err

def phaseA : Symbol := 49
def phaseB : Symbol := 50
def openSym : Symbol := 51
def closeSym : Symbol := 52
def turnSym : Symbol := 53
def clearSym : Symbol := 54
def fillSym : Symbol := 55

def isPhase (n : Symbol) : Bool := decide (n = phaseA) || decide (n = phaseB)

/-- R1: text symbols are 0 to 48. -/
def isTextSym (n : Symbol) : Bool := decide (n ≤ 48)

/-- R1: letters are symbols 0 to 25. -/
def isLetterSym (n : Symbol) : Bool := decide (n ≤ 25)

/-- R1: a digit's symbol number is 26 plus its value. -/
def digitOf (n : Symbol) : Option Nat := if 26 ≤ n ∧ n ≤ 35 then some (n - 26) else none

def Group.digit : Group → Option Nat
  | .sym n => digitOf n
  | .err => none

/-- The symbol of a capital letter of the manual. -/
def letterSym (c : Char) : Symbol := c.toNat - 0x41

/-- A text as symbols; codes outside the text set do not occur in the texts the part keeps. -/
def symbolsOf (t : Text) : List Symbol := t.map fun c => (symbolOf c).getD 42

/-- R40: a weight-error mark in a T block's text is stored as "?". -/
def Group.char : Group → Byte
  | .sym n => charOf n
  | .err => 0x3F#8

/-- The characters of payload positions. -/
def groupText (l : List Group) : Text := l.map Group.char

/-! ## Check digits (R5) -/

/-- R5: three base-48 digits, most significant first. -/
def checkDigits (c : Check) : List Symbol := [c.toNat / 2304, c.toNat % 2304 / 48, c.toNat % 48]

/-- R5: the value of three check positions, none when one holds no digit 0 to 47. -/
def checkValue : List Group → Option Nat
  | [.sym a, .sym b, .sym c] =>
    if a ≤ 47 ∧ b ≤ 47 ∧ c ≤ 47 then some (a * 2304 + b * 48 + c) else none
  | _ => none

/-! ## Frames sent (R13) -/

/-- R13: a frame over its kind, sequence and payload symbols. -/
def frameOver (covered : List Symbol) : List Symbol :=
  openSym :: covered ++ checkDigits (crc covered) ++ [closeSym]

/-- R13: a link frame; `seq` is 0 for unsequenced kinds. -/
def linkFrame (kind : Char) (seq : Nat) (payload : Text) : List Symbol :=
  frameOver (letterSym kind :: (26 + seq) :: symbolsOf payload)

/-- R13: a frame of the alert family. -/
def alertFrame (kind : Char) (payload : Text) : List Symbol :=
  frameOver (letterSym kind :: symbolsOf payload)

/-- R6: six phasing symbols, starting with PHASE_A. -/
def phasingSymbols : List Symbol := [phaseA, phaseB, phaseA, phaseB, phaseA, phaseB]

/-- R122: a burst is phasing, frames, TURN. -/
def burst (frames : List (List Symbol)) : List Symbol := phasingSymbols ++ frames.flatten ++ [turnSym]

/-! ## Frames received (R9, R11, R12) -/

/-- R9: the positions before the payload. -/
def Family.fixed : Family → Nat
  | .link => 2
  | .bulletin => 1
  | .alert => 1

/-- R9: the longest body the assembler accepts. -/
def Family.limit : Family → Nat
  | .link => 21
  | .bulletin => 38
  | .alert => 52

/-- R9: the range of n, which depends on the kind in the bulletin family. -/
def Family.lengthOk (f : Family) (kind : Option Symbol) (n : Nat) : Bool :=
  match f with
  | .link => decide (5 ≤ n) && decide (n ≤ 21)
  | .alert => decide (5 ≤ n) && decide (n ≤ 52)
  | .bulletin =>
    if kind = some (letterSym 'H') then decide (n = 15)
    else if kind = some (letterSym 'T') then decide (6 ≤ n) && decide (n ≤ 38)
    else decide (4 ≤ n) && decide (n ≤ 38)

/-- R12: the kind field (log 16). -/
def bodyKind (body : List Group) : Option Symbol :=
  match body with
  | .sym n :: _ => some n
  | .err :: _ => none
  | [] => none

/-- R12: the sequence field. -/
def bodySequence (f : Family) (body : List Group) : Option Nat :=
  match f, body with
  | .link, _ :: g :: _ => g.digit
  | _, _ => none

/-- The symbol numbers of groups; a weight error counts as 0 and never reaches a check comparison. -/
def groupSymbols (l : List Group) : List Nat := l.map fun g => match g with
  | .sym n => n
  | .err => 0

/-- R12: the body has its fixed positions and three check positions. -/
def hasCheck (f : Family) (body : List Group) : Bool := decide (f.fixed + 3 ≤ body.length)

/-- R11: the verdict on a frame that reached its CLOSE. -/
def judge (f : Family) (body : List Group) : Verdict × Option Reason :=
  let kind := bodyKind body
  let tail := body.drop (body.length - 3)
  if body.any fun g => decide (g = .err) then (.bad, some .weight)
  else if !f.lengthOk kind body.length || !(kind.map isLetterSym).getD false ||
      (decide (f = .link) && !((bodySequence f body).map fun d => decide (d ≤ 7)).getD false) ||
      (checkValue tail).isNone then (.bad, some .form)
  else if checkValue tail = some (crc (groupSymbols (body.take (body.length - 3)))).toNat then (.good, none)
  else (.bad, some .check)

/-- R12: the record of a frame that ended at its CLOSE. -/
def closedRecord (f : Family) (body : List Group) (t : Stamp) : FrameRec :=
  let v := judge f body
  let n := if hasCheck f body then body.length - 3 else body.length
  { family := f, verdict := v.1, reason := v.2, kind := bodyKind body, sequence := bodySequence f body,
    payload := (body.take n).drop f.fixed, check := checkValue (body.drop n), received := t }

/-- R12: the record of a frame that ended without its CLOSE. DAMAGED: every symbol after the fixed positions is
payload, and there is no check. Overlong, BAD with reason FORM, "holding the body up to that limit" (R10): where its
payload ends R12 leaves open; the model lays that body out as at CLOSE (log 15). -/
def cutRecord (f : Family) (body : List Group) (overlong : Bool) (t : Stamp) : FrameRec :=
  if overlong then { closedRecord f body t with verdict := .bad, reason := some .form }
  else
    { family := f, verdict := .damaged, reason := none, kind := bodyKind body, sequence := bodySequence f body,
      payload := body.drop f.fixed, check := none, received := t }

end Sys2Proof.Machine
end

