-- ==== Sys2Proof/Machine/Store.lean ====
section
/-! DEFINITION. The message store: slots, pages, eviction, deletion, the low-space watch, the operations
on the open part record (R69 to R78). -/
namespace Sys2Proof.Machine

/-- R69, R74: the page list of a record; of a BULLETIN record, its parts' lists in ascending part number. -/
def Record.pages (r : Record) : List Nat :=
  match r.body with
  | .outbound o => o.pages
  | .inbound i => i.pages
  | .bulletin b => (b.parts.map (·.pages)).flatten

/-- R71, R74: the text of a record. -/
def Record.text (r : Record) : Text :=
  match r.body with
  | .outbound o => o.text
  | .inbound i => i.text
  | .bulletin b => (b.parts.map (·.text)).flatten

/-- R69: the pages a text of this length needs. -/
def pagesFor (length : Nat) : Nat := ceilDiv length Config.pageChars

def Store.freeSlots (st : Store) : Nat := st.slots.countP (·.isNone)

/-- R69: the free slot with the lowest number. -/
def Store.lowestFree (st : Store) : Nat := (st.slots.findIdx? (·.isNone)).getD 0

/-- R74: a record is COMPLETE when every part number from 1 to n is present. -/
def Bulletin.complete (b : Bulletin) : Bool :=
  (List.range b.count).all fun k => b.parts.any fun p => decide (p.number = k + 1)

/-- Subject W is 0x57. -/
def isWarning (subject : Byte) : Bool := decide (subject = 0x57#8)

/-- R75: the class of an eviction candidate, none for a record eviction leaves alone. -/
def evictionClass (now : Int) (r : Record) : Option Nat :=
  match r.body with
  | .outbound o => if o.state = .delivered then some 2 else none
  | .inbound i => if i.state = .complete ∧ i.read = true then some 3 else none
  | .bulletin b =>
    if isWarning b.key.subject then none
    else if b.expiry ≤ now then some 1
    else if b.complete then some 4
    else some 5

/-- R75: the candidates in their order: by class, oldest first within a class. -/
def Store.candidates (st : Store) (now : Int) : List Nat :=
  [1, 2, 3, 4, 5].flatMap fun k =>
    st.age.filter fun n => decide ((st.slot n).bind (evictionClass now) = some k)

/-- R76: what a deletion is counted under. -/
inductive DeleteCause | eviction | expiry | master
  deriving DecidableEq, Repr

def Store.countDeletion (st : Store) : DeleteCause → Store
  | .eviction => { st with evicted := satAdd 65535 st.evicted 1 }
  | .expiry => { st with expired := satAdd 65535 st.expired 1 }
  | .master => { st with deleted := satAdd 65535 st.deleted 1 }

/-- R76: deletion of the record in a slot: pages to the tail of the free list, the slot free, the count
for the cause raised. -/
def Store.delete (st : Store) (cause : DeleteCause) (n : Nat) : Store :=
  match st.slot n with
  | none => st
  | some r =>
    Store.countDeletion { st with free := st.free ++ r.pages, age := st.age.filter (fun m => decide (m ≠ n)),
                                  slots := st.slots.set n none } cause

/-- R75: the need of a request is met. -/
def Store.meets (st : Store) (slots pages : Nat) : Bool :=
  decide (slots ≤ st.freeSlots) && decide (pages ≤ st.free.length)

/-- R75: candidates are deleted one at a time until the need is met. -/
def Store.evict (st : Store) (slots pages : Nat) : List Nat → Store
  | [] => st
  | n :: rest => if st.meets slots pages then st else (st.delete .eviction n).evict slots pages rest

/-- R75: the store after the evictions a request makes, none when it fails. The slots and pages are
taken afterwards, in the same event. -/
def Store.request (st : Store) (now : Int) (slots pages : Nat) : Option Store :=
  let st' := st.evict slots pages (st.candidates now)
  if st'.meets slots pages then some st' else none

/-- R69: takes the first pages of the free list. -/
def Store.takePages (st : Store) (k : Nat) : List Nat × Store :=
  (st.free.take k, { st with free := st.free.drop k })

/-- R69, R70: creates a record in the free slot of the lowest number. -/
def Store.create (st : Store) (r : Record) : Nat × Store :=
  let n := st.lowestFree
  (n, { st with slots := st.slots.set n (some r), age := st.age ++ [n] })

/-- R77: the low-space watch is tested after an event that changed the free slots or pages. -/
def State.lowTest (s : State) : State :=
  let pages := s.store.free.length
  let slots := s.store.freeSlots
  if s.store.low then
    if 32 < pages ∧ 4 < slots then { s with store := { s.store with low := false } } else s
  else if pages < 32 ∨ slots < 4 then
    { s with store := { s.store with low := true } }.raiseAll .storeLow
  else s

/-- R78: every BULLETIN record whose expiry has been reached is deleted, in age-list order. -/
def State.expirySweep (s : State) : State :=
  let gone := s.store.age.filter fun n =>
    match s.store.slot n with
    | some ⟨_, _, .bulletin b⟩ => decide (b.expiry ≤ s.clock)
    | _ => false
  { s with store := gone.foldl (fun st n => st.delete .expiry n) s.store }.lowTest

/-! ## Open part record (R74) -/

/-- R74: drop. -/
def State.partDrop (s : State) : State :=
  match s.store.part with
  | none => s
  | some p => { s with store := { s.store with part := none, free := s.store.free ++ p.pages } }.lowTest

/-- R74: open. -/
def State.partOpen (s : State) (key : BulletinKey) (number count : Nat) : State :=
  let s := s.partDrop
  { s with store := { s.store with
      part := some { key := key, number := number, count := count, damaged := 0, text := [], pages := [], received := none } } }

/-- R74: extend; `none` when the pages cannot be had, with the store left as it was. -/
def State.partExtend (s : State) (text : Text) (damaged : Nat) : Option State :=
  match s.store.part with
  | none => some s
  | some p =>
    let need := pagesFor (p.text.length + text.length) - p.pages.length
    match s.store.request s.clock 0 need with
    | none => none
    | some st =>
      let t := st.takePages need
      some ({ s with store := { t.2 with
        part := some { p with text := p.text ++ text, pages := p.pages ++ t.1, damaged := p.damaged + damaged } } }.lowTest)

/-- R74: the part entry an open part record becomes. -/
def OpenPart.entry (p : OpenPart) (now : Stamp) : PartEntry :=
  { number := p.number, damaged := p.damaged, received := p.received.getD now, text := p.text, pages := p.pages }

/-- R74: a part entry placed in ascending part number. -/
def insertPart (e : PartEntry) : List PartEntry → List PartEntry
  | [] => [e]
  | x :: rest => if e.number < x.number then e :: x :: rest else x :: insertPart e rest

/-- R156: the BULLETIN record with a key: its slot. -/
def Store.bulletinOf (st : Store) (key : BulletinKey) : Option (Nat × Bulletin) :=
  st.age.findSome? fun n =>
    match st.slot n with
    | some ⟨_, _, .bulletin b⟩ => if b.key = key then some (n, b) else none
    | _ => none

def Store.modBulletin (st : Store) (n : Nat) (f : Bulletin → Bulletin) : Store :=
  match st.slot n with
  | some ⟨o, c, .bulletin b⟩ => st.setSlot n (some ⟨o, c, .bulletin (f b)⟩)
  | _ => st

/-- R74: attach to a record. -/
def State.partAttach (s : State) (n : Nat) : State :=
  match s.store.part with
  | none => s
  | some p =>
    { s with store := { s.store with part := none }.modBulletin n fun b =>
        { b with parts := insertPart (p.entry s.stamp) b.parts } }.lowTest

/-- R74: replace a part; the part entry replaced gives its pages back. -/
def State.partReplace (s : State) (n : Nat) : State :=
  match s.store.part with
  | none => s
  | some p =>
    let old : List PartEntry := match s.store.slot n with
      | some ⟨_, _, .bulletin b⟩ => b.parts.filter fun e => decide (e.number = p.number)
      | _ => []
    let st := { s.store with part := none, free := s.store.free ++ (old.map PartEntry.pages).flatten }
    { s with store := st.modBulletin n fun b =>
        { b with parts := insertPart (p.entry s.stamp) (b.parts.filter fun e => decide (e.number ≠ p.number)) } }.lowTest

/-- R74: attach in a new record; `none` when no slot can be had. -/
def State.partAttachNew (s : State) (expiry : Int) : Option State :=
  match s.store.part with
  | none => some s
  | some p =>
    match s.store.request s.clock 1 0 with
    | none => none
    | some st =>
      let r : Record := { origin := none, created := s.stamp,
                          body := .bulletin { key := p.key, count := p.count, parts := [p.entry s.stamp], expiry := expiry } }
      some ({ s with store := { (st.create r).2 with part := none } }.lowTest)

end Sys2Proof.Machine
end

