-- ==== Sys2Proof/Machine/Transceiver.lean ====
section
/-! DEFINITION. The two receiver paths below their holders, the level sampler, the watch receiver's
stepping, the arbiter, the transmit path and the key monitor (R10, R14, R39 to R61). -/
namespace Sys2Proof.Machine

/-! ## Entries -/

/-- R22, R43, R45: stamps an entry's last scanned field. -/
def State.stampScanned (s : State) (i : Nat) : State :=
  s.modChannel i fun c => { c with scanned := some s.stamp }

/-- R40: stamps an entry's last good frame with a record's received stamp. -/
def State.stampGood (s : State) (i : Nat) (t : Stamp) : State :=
  s.modChannel i fun c => { c with good := some t }

/-- The valid entries of the roles named, in ascending index. -/
def State.entriesOf (s : State) (which : ChannelRole → Bool) : List Nat :=
  (List.range s.channels.length).filter fun i => (s.channel i).valid && which (s.channel i).role

/-- R42: TRAFFIC and BROADCAST. -/
def State.scanList (s : State) : List Nat := s.entriesOf fun r => decide (r ≠ .distress)

/-- R45: DISTRESS. -/
def State.watchList (s : State) : List Nat := s.entriesOf fun r => decide (r = .distress)

/-- R42: the smallest index above the last one, wrapping; the smallest when there is no last one. -/
def nextEntry (last : Option Nat) (l : List Nat) : Option Nat :=
  match last with
  | none => l.head?
  | some i => (l.find? fun j => decide (i < j)).or l.head?

/-! ## Level sampler (R41) -/

/-- R41: a start is discarded while a conversion runs. -/
def State.startConversion (s : State) (input : LevelInput) (entry : Nat) (cause : LevelCause) : State :=
  match s.sampler with
  | none => { s with sampler := some ⟨input, entry, cause, false⟩ }
  | some _ => s

/-- R41: a quarter of a difference, rounded away from zero. -/
def quarterAway (d : Int) : Int := if 0 ≤ d then (d + 3) / 4 else -((-d + 3) / 4)

/-- R41: the smoothed level after a result. -/
def smoothed (before : Option Nat) (result : Nat) : Nat :=
  match before with
  | none => result
  | some m => ((m : Int) + quarterAway ((result : Int) - m)).toNat

/-! ## Paths -/

/-- R12: the family the holder of the transceiver works in. -/
def familyOf : Claimant → Option Family
  | .link => some .link
  | .bulletinMandatory | .bulletinOrdinary => some .bulletin
  | .distress | .tune | .scan => none

/-- R12: the family of a path. -/
def State.family (s : State) : Path → Option Family
  | .watch => some .alert
  | .transceiver => s.holder.bind familyOf

/-- R3, R47, R54: the path takes groups: no settle, no key on the transceiver path, no blanking and an
entry on the watch path. -/
def State.receiving (s : State) : Path → Bool
  | .transceiver => s.running && !s.keyLine && !decide (s.arb.grant.map (·.phase) = some .settling)
  | .watch => s.running && !s.watch.blanked && (decide (s.watch.state = .dwelling) || decide (s.watch.state = .held))

/-- R12, R40, R50: an ended frame goes to the holder of its path; the channel table takes its last good
frame and, on the transceiver path, starts a conversion at a CLOSE. Without a channel nothing is handed on. -/
def State.deliverFrame (s : State) (p : Path) (r : FrameRec) (atClose : Bool) : State :=
  match p with
  | .watch =>
    let s := match s.watch.entry with
      | some i => if r.verdict = Verdict.good then s.stampGood i r.received else s
      | none => s
    s.post (.frame .watch none r)
  | .transceiver =>
    match s.arb.grant with
    | some ⟨h, some ch, _, _⟩ =>
      let s := if r.verdict = Verdict.good then s.stampGood ch r.received else s
      let s := if atClose then s.startConversion .rlvl ch .frameClose else s
      s.post (.frame .transceiver (some h) r)
    | _ => s

/-- R12, R40: an event of a path goes to its holder; on the transceiver path only with a channel (R50). -/
def State.deliverEvent (s : State) (p : Path) (event : Option Claimant → Signal) : State :=
  match p with
  | .watch => s.post (event none)
  | .transceiver =>
    match s.arb.grant with
    | some ⟨h, some _, _, _⟩ => s.post (event (some h))
    | _ => s

/-- R39: the tracker back in SEARCH; the boundary stays. -/
def Tracker.toSearch (t : Tracker) : Tracker := { t with locked := false, history := [], errRun := 0 }

/-- R10: what a path break leaves of a path; R39: all but a change of family send the tracker to SEARCH. -/
def RxPath.broken (r : RxPath) (familyChange : Bool) : RxPath :=
  { r with tracker := if familyChange then r.tracker else r.tracker.toSearch,
           phasing := 0, clearPending := false, body := none }

/-- R10: a path break. A frame in progress ends DAMAGED; it is discarded when its body is empty or when
the break is a change of family. -/
def State.pathBreak (s : State) (p : Path) (familyChange : Bool) : State :=
  let r := s.path p
  let s' := s.setPath p (r.broken familyChange)
  match r.body, s.family p with
  | some (g :: gs), some f =>
    if familyChange then s' else s'.deliverFrame p (cutRecord f (g :: gs) false s.stamp) false
  | _, _ => s'

/-! ## Watch receiver (R45 to R47) -/

/-- R45: stepping to an entry; its tuning word is presented with the strobe WSTB (log 48), and a dwell interval starts. -/
def State.watchStepTo (s : State) (i : Nat) : State :=
  { s with watch := { s.watch with word := (s.channel i).freq, entry := some i, state := .settling, since := s.time.elapsed },
           wstb := s.wstb + 1 }.pathBreak .watch false

/-- R45: stepping to the entry after an index; IDLE when the watch list is empty. Going to IDLE is no path break
(R10, R39 name none): the model's choice, log 41. WTUNE stays at the frequency of the last entry, without a strobe: the
model's choice, log 53. -/
def State.watchStepAfter (s : State) (last : Option Nat) : State :=
  match nextEntry last s.watchList with
  | some i => s.watchStepTo i
  | none => { s with watch := { s.watch with state := .idle, entry := none } }

/-- R45, R46: the end of a dwell or a hold: stamp, conversion, step. -/
def State.watchMoveOn (s : State) : State :=
  match s.watch.entry with
  | some i => ((s.stampScanned i).startConversion .wlvl i .watchDwell).watchStepAfter (some i)
  | none => s

/-- R47: assertion of the key line blanks the watch receiver. A hold ends with a stamp and a step. -/
def State.blank (s : State) : State :=
  let s := { s with watch := { s.watch with blanked := true } }.pathBreak .watch false
  match s.watch.state, s.watch.entry with
  | .held, some i => (s.stampScanned i).watchStepAfter (some i)
  | _, _ => s

/-- R47: release of the key line. -/
def State.unblank (s : State) : State := { s with watch := { s.watch with blanked := false } }

/-! ## Key line and transmit path (R14, R55 to R57, R60) -/

/-- R2: the unit on air is a space unit. Without a symbol the word rests as a mark (R67). -/
def TxPath.spaceUnit (t : TxPath) : Bool :=
  match t.list with
  | n :: _ => !(unitsOf n).getMsbD t.unit
  | [] => false

/-- R2: the tuning word for a mark or a space unit; a change is presented with the strobe TSTB. -/
def State.shiftTo (s : State) (space : Bool) : State :=
  { s with tuner := { s.tuner with space := space },
           tstb := s.tstb + if s.tuner.space = space then 0 else 1 }

/-- R2: the units of a symbol in their order on air, true for a space unit. -/
def spaceUnits (n : Symbol) : List Bool := (List.range 8).map fun k => !(unitsOf n).getMsbD k

/-- R2, R14: the units of the symbol on air that follow the one on air. -/
def TxPath.unitsLeft (t : TxPath) : List Bool :=
  match t.list with
  | n :: _ => (spaceUnits n).drop (t.unit + 1)
  | [] => []

/-- R2: units come on air one after another, each with its shift and strobe. -/
def State.shifts (s : State) (units : List Bool) : State := units.foldl State.shiftTo s

/-- R55, R60: the key line is asserted for the holder: monitor, path breaks on both paths, KEYED. -/
def State.assertKey (s : State) : State :=
  let m := match s.monitor with
    | .quiet => .rising
    | .stuck => .keyed
    | .rising => .rising
    | .keyed => .keyed
    | .falling => .falling
  let s := (({ s with monitor := m, tx := { s.tx with heldBack := false } }.shiftTo s.tx.spaceUnit).pathBreak
    .transceiver false).blank
  match s.holder with
  | some c => s.post (.keyed c)
  | none => s

/-- R60: the key line is released if it is asserted; the tuning word rests on the channel frequency (R2). -/
def State.releaseKey (s : State) : State :=
  match s.monitor with
  | .rising => ({ s with monitor := .quiet }.shiftTo false).unblank
  | .keyed => ({ s with monitor := .falling }.shiftTo false).unblank
  | .quiet | .falling | .stuck => s

/-- R14: the key dropped beneath the path: the list is discarded and STOPPED reported. -/
def State.stopPath (s : State) : State :=
  let s' := { s with tx := TxPath.reset }
  match s.tx.list, s.holder with
  | _ :: _, some c => s'.post (.stopped c s.tx.sent)
  | _, _ => s'

def State.setPhase (s : State) (ph : Phase) : State :=
  { s with arb := { s.arb with grant := s.arb.grant.map fun g => { g with phase := ph } } }

def State.phase (s : State) : Option Phase := s.arb.grant.map (·.phase)

/-- R14, R57: the transmission is complete: key released, phase RX, COMPLETED with the count. -/
def State.completePath (s : State) (count : Nat) : State :=
  let s := ({ s with tx := TxPath.reset }.releaseKey).setPhase .rx
  match s.holder with
  | some c => s.post (.completed c count)
  | none => s

/-- R14: one symbol leaves the list as sent; the first unit of the next comes on air. -/
def TxPath.advance (t : TxPath) : TxPath :=
  match t.list with
  | [] => t
  | n :: rest =>
    { t with list := rest, unit := 0, sent := t.sent + 1,
             inFrame := if n = openSym then true else if n = closeSym then false else t.inFrame }

/-- R56: up to and including the next CLOSE. -/
def throughClose : List Symbol → List Symbol
  | [] => []
  | n :: rest => if n = closeSym then [n] else n :: throughClose rest

/-- R56: what a trim to the frame end keeps. -/
def TxPath.trimmed (t : TxPath) : List Symbol :=
  match t.list with
  | [] => []
  | n :: rest => if n = openSym ∨ t.inFrame = true then throughClose (n :: rest) else [n]

/-- R56: the path is trimmed to the frame end. With the assertion still held back, the list is emptied
and COMPLETED reported with a count of 0 without keying. -/
def State.trim (s : State) : State :=
  if s.tx.list = [] then s
  else if s.tx.heldBack then s.completePath 0
  else { s with tx := { s.tx with list := s.tx.trimmed } }

/-! ## Arbiter (R48 to R59) -/

/-- R58: a release request to the holder. The release limit runs from here on. -/
def State.requestRelease (s : State) : State :=
  match s.arb.grant with
  | some g => { s with arb := { s.arb with grant := some { g with request := some s.nowMs } } }.drawn.post (.releaseRequest g.holder)
  | none => s

/-- R52: a claim becomes the grant. The transceiver path takes a new holder, which is a path break (R10, R52); that it
is one from FREE too, whatever the families, is the model's choice (log 50). -/
def State.grantTo (s : State) (c : Claimant) : State :=
  let s := ({ s with arb := { s.arb with grant := some ⟨c, none, .rx, none⟩ } }.pathBreak .transceiver true).post (.granted c)
  if s.arb.waiting.any fun w => w.preempts c then s.requestRelease else s

/-- R52: the claim of highest priority in the waiting set. -/
def bestClaim : List Claimant → Option Claimant
  | [] => none
  | c :: rest =>
    match bestClaim rest with
    | none => some c
    | some d => if d.priority < c.priority then some d else some c

/-- R52: the grant ends, and the next claim is granted or the scanner told FREE. The end of a grant is a path break also
where no holder follows or no family was worked in (the model's choice, log 50). -/
def State.endGrant (s : State) : State :=
  let s := { s with arb := { s.arb with grant := none } }.pathBreak .transceiver true
  match bestClaim s.arb.waiting with
  | some c => { s with arb := { s.arb with waiting := s.arb.waiting.filter fun w => decide (w ≠ c) } }.grantTo c
  | none => s.post .scannerCheck

/-- R51: a claim is taken. A claimant that has a claim is told DUPLICATE and nothing changes (R48). A
SCAN claim that cannot be granted at once is declined, and the scanner returns to IDLE. -/
def State.claim (s : State) (c : Claimant) : State :=
  if s.hasClaim c then s
  else match s.arb.grant with
    | none =>
      if c = .scan ∧ s.arb.waiting ≠ [] then { s with scanner := { s.scanner with state := .idle, current := none } }
      else s.grantTo c
    | some g =>
      if c = .scan then { s with scanner := { s.scanner with state := .idle, current := none } }
      else
        let s := { s with arb := { s.arb with waiting := s.arb.waiting ++ [c] } }
        if g.request.isNone ∧ c.preempts g.holder = true then s.requestRelease else s

/-- R53: the claimant releases its grant or withdraws its waiting claim; without a claim, nothing. -/
def State.release (s : State) (c : Claimant) : State :=
  let s := if c = .tune then { s with arb := { s.arb with tune := none } } else s
  if s.holder = some c then
    (if s.phase = some .tx then s.releaseKey.stopPath else s).endGrant
  else { s with arb := { s.arb with waiting := s.arb.waiting.filter fun w => decide (w ≠ c) } }

/-- R59: the grant is revoked. -/
def State.revoke (s : State) : State :=
  match s.arb.grant with
  | none => s
  | some g =>
    let s := if g.phase = .tx then s.releaseKey.stopPath else s
    let s := if g.holder = .tune then { s with arb := { s.arb with tune := none } } else s
    (s.post (.revoked g.holder)).endGrant

/-- R54: a tune request by the holder; the word of an accepted one is presented with the strobe TSTB. -/
def State.tuneTo (s : State) (c : Claimant) (i : Nat) : State :=
  match s.arb.grant with
  | none => s
  | some g =>
    if g.holder ≠ c then s
    else if g.phase = .tx ∨ (s.channel i).valid = false then s.post (.tuneRefused c)
    else
      { s with tuner := ⟨(s.channel i).freq, false⟩, tstb := s.tstb + 1,
               arb := { s.arb with grant := some { g with channel := some i, phase := .settling } } }.pathBreak .transceiver false

/-- R55: the holders whose TX request is tested against the gate, and those that never key. -/
def txBlocked (s : State) (g : Grant) : Bool :=
  match g.holder with
  | .bulletinMandatory | .bulletinOrdinary | .scan => true
  | .link | .tune => decide (g.phase ≠ .rx) || g.channel.isNone || s.gateClosed
  | .distress => decide (g.phase ≠ .rx) || g.channel.isNone

/-- R55: a TX request by the holder. -/
def State.txRequest (s : State) (c : Claimant) : State :=
  match s.arb.grant with
  | none => s
  | some g =>
    if g.holder ≠ c then s
    else if txBlocked s g then s.post (.blocked c)
    else
      let s := s.setPhase .tx
      if s.monitor = .falling then { s with tx := { s.tx with heldBack := true } } else s.assertKey

/-- R14, R56: the holder in TX offers a symbol list. -/
def State.offer (s : State) (c : Claimant) (l : List Symbol) : State :=
  if s.holder = some c ∧ s.phase = some .tx ∧ ¬ (c = .link ∧ s.gateClosed = true) then
    let t := { s.tx with list := s.tx.list ++ l }
    { s with tx := t }.shiftTo (!t.heldBack && t.spaceUnit)
  else s

/-! ## Faults (R61, R62) -/

/-- R62: a fault is entered in the record. -/
def FaultRecord.enter (f : FaultRecord) (e : FaultEntry) : FaultRecord :=
  match f.state with
  | .none => { f with state := .pending, first := some e }
  | .pending => { f with state := .lockout, second := some e }
  | .lockout => { f with count := satAdd 255 f.count 1 }

/-- R61: what every key fault does, in its order. -/
def State.keyFault (s : State) (kind : KeyFaultKind) : State :=
  let e : FaultEntry := ⟨kind, s.stamp, s.holder, s.grantChannel⟩
  let s := s.releaseKey
  let s := if s.phase = some .tx then
      let t := (s.stopPath).setPhase .rx
      match t.holder with
      | some c => t.post (.keyFault c)
      | none => t
    else s
  let before := s.fault.state
  let s := ({ s with fault := s.fault.enter e }.raiseAll .fault).alarmEvent .fault
  if before = .pending then s.post .gateClosed else s

/-- R60: the sense line rises. -/
def State.senseRise (s : State) : State :=
  match s.monitor with
  | .quiet => { s with monitor := .falling }
  | .rising => { s with monitor := .keyed }
  | .keyed | .falling | .stuck => s

/-- R60, R55: the sense line falls; an assertion held back in FALLING is made. -/
def State.senseFall (s : State) : State :=
  match s.monitor with
  | .keyed => { s with monitor := .rising }
  | .falling =>
    let s := { s with monitor := .quiet }
    if s.tx.heldBack then s.assertKey else s
  | .stuck => { s with monitor := .quiet }
  | .quiet | .rising => s

/-! ## Scanner (R42 to R44) -/

/-- R42: the scanner checks whether it may claim. -/
def State.scanCheck (s : State) : State :=
  if s.scanner.state = .idle ∧ s.arb.grant = none ∧ s.arb.waiting = [] then
    match nextEntry s.scanner.last s.scanList with
    | some i => { s with scanner := { s.scanner with state := .claiming, current := some i } }.claim .scan
    | none => s
  else s

/-- R43: a dwell begins with a tune. -/
def State.scanDwell (s : State) (i : Nat) : State :=
  { s with scanner := { s.scanner with state := .dwelling, current := some i, phasing := false, extended := false } }.tuneTo .scan i

/-- R44: the scanner in IDLE with no release pending; it has no current entry and no flag of a dwell set (log 52). -/
def Scanner.stopped (c : Scanner) : Scanner :=
  { c with state := .idle, current := none, phasing := false, releasePending := false, extended := false }

/-- R43: the end of a dwell. -/
def State.scanEnd (s : State) : State :=
  match s.scanner.current with
  | none => s
  | some i =>
    let s := { s with scanner := { s.scanner with last := some i } }.stampScanned i
    let s := if s.scanner.phasing then s.score i 1 else s
    let s := s.startConversion .rlvl i (.scanDwell s.scanner.phasing)
    if s.scanner.releasePending then { s with scanner := s.scanner.stopped }.release .scan
    else match nextEntry (some i) s.scanList with
      | some j => s.scanDwell j
      | none => { s with scanner := s.scanner.stopped }.release .scan

/-- R43: at its scheduled end a dwell is extended while the phasing count is 1, 2 or 3 and no release
is pending; at the end of an extension it ends. -/
def State.scanScheduledEnd (s : State) : State :=
  if s.scanner.extended = false ∧ s.scanner.releasePending = false ∧ 1 ≤ s.trx.phasing ∧ s.trx.phasing ≤ 3 then
    { s with scanner := { s.scanner with extended := true } }
  else s.scanEnd

/-- R42: the grant starts the first dwell. -/
def State.scanGranted (s : State) : State :=
  match s.scanner.current with
  | some i => s.scanDwell i
  | none => s.release .scan

/-- R44: a release request. -/
def State.scanRelease (s : State) : State :=
  let s := { s with scanner := { s.scanner with releasePending := true } }
  if s.scanner.extended then s.scanEnd else s

/-- R43: phasing heard in a dwell. -/
def State.scanPhasing (s : State) : State :=
  if s.scanner.state = .dwelling then
    let s := { s with scanner := { s.scanner with phasing := true } }
    if s.scanner.extended then s.scanEnd else s
  else s

/-- R43: the phasing count falls to 0 in an extension. -/
def State.scanPhasingGone (s : State) : State := if s.scanner.extended then s.scanEnd else s

/-! ## TUNE (R67) -/

/-- R67: on GRANTED. -/
def State.tuneGranted (s : State) : State :=
  match s.arb.tune with
  | some t => if (s.channel t.entry).valid then s.tuneTo .tune t.entry else s.release .tune
  | none => s.release .tune

/-- R67: a waiting TUNE claim is withdrawn and a TUNE holder releases when the gate closes. -/
def State.tuneGateClosed (s : State) : State := if s.hasClaim .tune then s.release .tune else s

end Sys2Proof.Machine
end

