-- ==== Sys2Proof/Machine/Reception.lean ====
section
/-! DEFINITION. What a group of eight units and a line transition do to a receiver path (R3, R6 to R8,
R10, R37 to R39). -/
namespace Sys2Proof.Machine

/-! ## Phasing run and clear-pending flag -/

/-- R6: the phasing run after a group that reaches it; FILL does not. -/
def RxPath.phased (r : RxPath) (g : Group) : RxPath :=
  match g with
  | .sym n =>
    if isPhase n then
      if r.phasing = 0 ∨ r.lastPhase ≠ some n then { r with phasing := min 4 (r.phasing + 1), lastPhase := some n }
      else { r with phasing := 1, lastPhase := some n }
    else { r with phasing := 0 }
  | .err => { r with phasing := 0 }

/-- R6: the run newly reached 4. -/
def phasingNews (before after : RxPath) : Bool := decide (before.phasing < 4) && decide (after.phasing = 4)

/-! ## Tracker -/

/-- R37: the boundary moved by a number of eighths, modulo one symbol of 64 eighths. -/
def shiftBoundary (b : Nat) (by_ : Int) : Nat := (((b : Int) + by_) % 64).toNat

/-- R37: the edges moved by a number of eighths, modulo one unit of 8 eighths. -/
def shiftEdge (e : Nat) (by_ : Int) : Nat := (((e : Int) + by_) % 8).toNat

def Tracker.moved (t : Tracker) (by_ : Int) : Tracker :=
  { t with edge := shiftEdge t.edge by_, boundary := shiftBoundary t.boundary by_ }

/-- R38: lock is gained on the phasing run. -/
def Tracker.toLocked (t : Tracker) : Tracker := { t with locked := true, history := [], errRun := 0 }

/-- R38: the weight-error run after a group. -/
def Tracker.counted (t : Tracker) (g : Group) : Tracker :=
  match g with
  | .err => { t with errRun := t.errRun + 1 }
  | .sym _ => { t with errRun := 0 }

/-! ## Frame assembler -/

/-- R10: the assembler's part of a group, for a path with a family. -/
def State.assemble (s : State) (p : Path) (f : Family) (g : Group) : State :=
  let r := s.path p
  let hunt := s.setPath p { r with body := none }
  match r.body with
  | none => if g = .sym openSym then s.setPath p { r with body := some [] } else s
  | some body =>
    let cut := if body = [] then hunt else hunt.deliverFrame p (cutRecord f body false s.stamp) false
    match g with
    | .sym n =>
      if n = openSym then
        cut.setPath p { cut.path p with body := some [] }
      else if n = closeSym then hunt.deliverFrame p (closedRecord f body s.stamp) true
      else if isTextSym n then
        if f.limit < body.length + 1 then hunt.deliverFrame p (cutRecord f body true s.stamp) false
        else s.setPath p { r with body := some (body ++ [g]) }
      else cut
    | .err =>
      if f.limit < body.length + 1 then hunt.deliverFrame p (cutRecord f body true s.stamp) false
      else s.setPath p { r with body := some (body ++ [g]) }

/-- R7: TURN and CLEAR outside frames, and the clear-pending flag. -/
def State.turnAndClear (s : State) (p : Path) (g : Group) : State :=
  let r := s.path p
  if g = .sym turnSym then (s.setPath p { r with clearPending := false }).deliverEvent p (.turn p)
  else if g = .sym clearSym then
    if r.clearPending then (s.setPath p { r with clearPending := false }).deliverEvent p (.clear p)
    else s.setPath p { r with clearPending := true }
  else s.setPath p { r with clearPending := false }

/-- R6: the phasing run of a path takes a group; a run that reaches 4 locks a searching tracker (R38)
and raises phasing heard. -/
def State.phasingStep (s : State) (p : Path) (g : Group) : State :=
  let before := s.path p
  let after := before.phased g
  if phasingNews before after then
    let t := if after.tracker.locked then after.tracker else after.tracker.toLocked
    (s.setPath p { after with tracker := t }).deliverEvent p (.phasing p)
  else s.setPath p after

/-! ## A group of eight units -/

/-- R37: in SEARCH a group takes part only in the phasing search; one that is neither PHASE_A nor
PHASE_B makes the next begin one unit later. -/
def State.searchGroup (s : State) (p : Path) (g : Group) : State :=
  let r := s.path p
  let phase := match g with
    | .sym n => isPhase n
    | .err => false
  let s := if phase then s else s.setPath p { r with tracker := { r.tracker with boundary := shiftBoundary r.tracker.boundary 8 } }
  if g = .sym fillSym then s else s.phasingStep p g

/-- R39: loss of lock: SEARCH, a path break, and the event a bulletin holder receives. -/
def State.loseLock (s : State) (p : Path) : State :=
  let s := s.pathBreak p false
  match p with
  | .transceiver => s.deliverEvent .transceiver .lockLost
  | .watch => s

/-- R3, R7, R8, R10, R38: in LOCKED a group counts its weight error, is removed if FILL, and goes through
the assembler, the phasing run and the handling of TURN and CLEAR. What a loss of lock hands on of a run of errors: log 14. -/
def State.lockedGroup (s : State) (p : Path) (g : Group) : State :=
  let r := s.path p
  let t := r.tracker.counted g
  let s := s.setPath p { r with tracker := t }
  if 4 ≤ t.errRun then s.loseLock p
  else if g = .sym fillSym then s
  else
    let s := match s.family p with
      | some f => s.assemble p f g
      | none => s
    (s.phasingStep p g).turnAndClear p g

/-- R3: the decoder takes a group, unless the path receives nothing. An extension of a scan dwell ends
when the phasing count falls to 0 (R43). -/
def State.receive (s : State) (p : Path) (units : Byte) : State :=
  if s.receiving p then
    let g := decodeUnits units
    let s' := if (s.path p).tracker.locked then s.lockedGroup p g else s.searchGroup p g
    if s'.scanner.extended ∧ s'.trx.phasing = 0 then s'.post .scanPhasingGone else s'
  else s

/-- R3: groups one after another. -/
def State.receiveAll (s : State) (p : Path) (l : List Byte) : State := l.foldl (fun s u => s.receive p u) s

/-! ## A transition of the line -/

/-- R38: the mean of sixteen errors exceeds 2 eighths in either direction. -/
def meanExceeds (sum : Int) : Bool := decide (32 < sum) || decide (sum < -32)

/-- R38: the mean of sixteen errors to the nearest eighth; halfway between two it is a free value (log 10). -/
def roundedMean (sum : Int) (tieLater : Bool) : Int :=
  let q := sum / 16
  let r := sum % 16
  if r < 8 then q else if 8 < r then q + 1 else if tieLater then q + 1 else q

/-- R38: the history after an error is entered; the oldest of 16 is removed first. -/
def enterError (h : List Int) (e : Int) : List Int := (if 16 ≤ h.length then h.drop 1 else h) ++ [e]

/-- R38: the run measurement after a number of units. -/
def Tracker.ran (t : Tracker) (units : Nat) : Tracker :=
  { t with runUnits := (t.runUnits + units) % 8, runOver := t.runOver + (t.runUnits + units) / 8 }

/-- R38: eight times the overflow count plus the unit count. -/
def Tracker.runLength (t : Tracker) : Nat := 8 * t.runOver + t.runUnits

/-- R37, R38: a transition with its error, ending a run of `units` whole units (log 21). -/
def Tracker.transition (t : Tracker) (error : Int) (units : Nat) (tieLater : Bool) : Tracker :=
  let t := t.ran units
  let long := decide (10 < t.runLength)
  let t := { t with runUnits := 0, runOver := 0 }
  if t.locked then
    if long then { t with longRuns := satAdd 255 t.longRuns 1 }
    else
      let h := enterError t.history error
      if h.length = 16 ∧ meanExceeds h.sum = true then { (t.moved (roundedMean h.sum tieLater)) with history := [] }
      else { t with history := h }
  else t.moved error

/-- R38: the transition brings a phase correction. -/
def Tracker.corrects (t : Tracker) (error : Int) (units : Nat) : Bool :=
  t.locked && !decide (10 < (t.ran units).runLength) &&
  decide ((enterError t.history error).length = 16) && meanExceeds (enterError t.history error).sum

/-- R37, R38: a transition on a path; a correction draws a fresh free value for a mean at a tie. -/
def State.lineTransition (s : State) (p : Path) (error : Int) (units : Nat) : State :=
  let r := s.path p
  let s' := s.setPath p { r with tracker := r.tracker.transition error units (Config.meanTieLater s.freeCount) }
  if r.tracker.corrects error units then s'.drawn else s'

end Sys2Proof.Machine
end

