-- ==== Sys2Proof/Machine/Queue.lean ====
section
/-! DEFINITION. The outbound queue, the running numbers, report outcomes, the traffic check and the
inbound side (R30, R72, R105 to R120). -/
namespace Sys2Proof.Machine

/-! ## Streams (R72) -/

def MsgClass.letter : MsgClass → Byte
  | .urgent => 0x55#8
  | .catch_ => 0x43#8
  | .routine => 0x52#8

/-- R72: the header line of an outbound message. -/
def Outbound.header (o : Outbound) : Text :=
  [0x2B#8] ++ digits 4 (o.msg.getD 0) ++ [0x20#8, o.cls.letter, 0x20#8] ++ decimal o.text.length ++ [0x0A#8]

/-- R72: the stream, header line and body. -/
def Outbound.stream (o : Outbound) : Text := o.header ++ o.text

def Outbound.streamLength (o : Outbound) : Nat := o.header.length + o.text.length

/-- R106: a catch report is an OUTBOUND record that carries a haul list. -/
def Outbound.isReport (o : Outbound) : Bool := !o.hauls.isEmpty

/-! ## Numbers (R30) -/

/-- R30: after 9999 comes 1. -/
def nextMessage (n : Nat) : Nat := if n = 9999 then 1 else n + 1

/-- R30: after 999 comes 1. -/
def nextReportNumber (n : Nat) : Nat := if n = 999 then 1 else n + 1

/-! ## Report outcomes (R105) -/

/-- R105. -/
inductive ReportOutcome | delivered | failed | withdrawn
  deriving DecidableEq, Repr

/-- R105: an outcome on one listed haul. -/
def Haul.applied (h : Haul) (o : ReportOutcome) : Haul :=
  match o with
  | .delivered => { h with state := .reported, cor := false }
  | .failed | .withdrawn => { h with state := .unreported, report := none }

/-- R105: the outcome of the catch report in a slot; without an open report entry, nothing. -/
def State.reportOutcome (s : State) (slot : Nat) (o : ReportOutcome) : State :=
  match s.log.reports.find? fun r => decide (r.slot = slot) with
  | none => s
  | some r =>
    { s with log := { s.log with
        hauls := s.log.hauls.map fun (h : Haul) => if h.number ∈ r.hauls then h.applied o else h,
        reports := s.log.reports.filter fun x => decide (x.slot ≠ slot) } }.raiseAll .haul

/-! ## Queue order (R106) -/

def MsgClass.rank : MsgClass → Nat
  | .urgent => 0
  | .catch_ => 1
  | .routine => 2

/-- The class rank of the record in a slot. -/
def State.rankOf (s : State) (slot : Nat) : Nat := (s.outbound slot).elim 3 fun o => o.cls.rank

/-- Inserts a slot before the first entry the condition names. -/
def insertBefore (slot : Nat) (p : Nat → Bool) : List Nat → List Nat
  | [] => [slot]
  | x :: rest => if p x then slot :: x :: rest else x :: insertBefore slot p rest

def State.setEntries (s : State) (l : List Nat) : State := { s with queue := { s.queue with entries := l } }

/-- R106, R108: the entry joins after the last entry of its class. -/
def State.joinQueue (s : State) (slot : Nat) : State :=
  s.setEntries (insertBefore slot (fun x => decide (s.rankOf slot < s.rankOf x)) s.queue.entries)

/-- R109: the entry is placed before every other entry of its class. -/
def State.expedite (s : State) (slot : Nat) : State :=
  s.setEntries (insertBefore slot (fun x => decide (s.rankOf slot ≤ s.rankOf x))
    (s.queue.entries.filter fun x => decide (x ≠ slot)))

def State.leaveQueue (s : State) (slot : Nat) : State :=
  s.setEntries (s.queue.entries.filter fun x => decide (x ≠ slot))

/-- R107: the entry is due. -/
def State.due (s : State) (slot : Nat) : Bool :=
  match s.outbound slot with
  | some o => decide (o.state = .queued) && o.retry.isNone
  | none => false

/-- R107: head due entry. -/
def State.headDue (s : State) : Option Nat := s.queue.entries.find? s.due

def State.destIs (s : State) (slot : Nat) (station : Text) : Bool :=
  match s.outbound slot with
  | some o => decide (o.dest = station)
  | none => false

/-- R107, R129: next due entry for a station, those set aside passed over. -/
def State.nextDue (s : State) (station : Text) (aside : List Nat) : Option Nat :=
  s.queue.entries.find? fun n => s.due n && s.destIs n station && !decide (n ∈ aside)

/-- R107: traffic waiting. -/
def State.trafficWaiting (s : State) : State := s.post .linkTest

/-- R108, R30: the record in a slot is enqueued with the next message number. -/
def State.enqueue (s : State) (slot : Nat) : State :=
  let n := s.ident.nextMsg
  let s := s.modOutbound slot fun o =>
    { o with state := .queued, msg := some n, resume := 0, attempts := 0, retry := none, failure := none }
  ({ s with ident := { s.ident with nextMsg := nextMessage n } }.joinQueue slot).trafficWaiting

/-! ## Results of the link (R113 to R115) -/

/-- R113: abandonment, and receipt unanswered: the SENDING record returns to QUEUED, due at once. -/
def State.returnToQueue (s : State) (slot : Nat) : State :=
  match s.outbound slot with
  | some o =>
    if o.state = .sending then
      (s.modOutbound slot fun o => { o with state := .queued, retry := none }).trafficWaiting
    else s
  | none => s

/-- R114, R115: a record fails and leaves the queue. -/
def State.failMessage (s : State) (slot : Nat) (why : FailReason) : State :=
  match s.outbound slot with
  | none => s
  | some o =>
    let s := (s.modOutbound slot fun o => { o with state := .failed, failure := some why, retry := none }).leaveQueue slot
    let s := if o.isReport then s.reportOutcome slot .failed else s
    s.raiseAll .failed

/-- R115: delivered. -/
def State.deliverMessage (s : State) (slot : Nat) : State :=
  match s.outbound slot with
  | none => s
  | some o =>
    let s := (s.modOutbound slot fun o => { o with state := .delivered, retry := none }).leaveQueue slot
    let s := if o.isReport then s.reportOutcome slot .delivered else s
    s.raiseAll .delivered

/-- R114: one entry is charged an attempt. -/
def State.chargeEntry (s : State) (why : FailReason) (slot : Nat) : State :=
  match s.outbound slot with
  | none => s
  | some o =>
    let s := s.modOutbound slot fun o => { o with attempts := o.attempts + 1 }
    if o.attempts + 1 < 8 then
      s.modOutbound slot fun o => { o with state := .queued, retry := some s.time.elapsed }
    else s.failMessage slot why

/-- R114: an attempt failure charges every entry of the station that is SENDING or due. -/
def State.attemptFailure (s : State) (why : FailReason) (station : Text) : State :=
  let charged := s.queue.entries.filter fun n =>
    s.destIs n station && (s.due n || decide ((s.outbound n).map (·.state) = some .sending))
  charged.foldl (fun s n => s.chargeEntry why n) s

/-! ## Traffic check (R116) -/

def State.setTimer (s : State) (t : Option CheckTimer) : State := { s with queue := { s.queue with timer := t } }

/-- R116: the queue tests the check. At an accepted SHIP a timer already running is left as it is. -/
def State.checkTest (s : State) (atShip : Bool) : State :=
  let length := s.ident.interval * 3600
  let passed := s.since s.queue.lastHome
  if s.ident.interval = 0 then { s with queue := { s.queue with timer := none, request := none } }
  else if s.ident.home = [] then s.setTimer none
  else if length ≤ passed then
    { s with queue := { s.queue with timer := none, request := some s.ident.home } }.trafficWaiting
  else if atShip = true ∧ s.queue.timer.isSome = true then s
  else s.setTimer (some ⟨s.time.elapsed, length - passed⟩)

/-- R116: the end of an attempt or link with a station. -/
def State.attemptEnd (s : State) (station : Text) : State :=
  if station = s.ident.home ∧ s.ident.home ≠ [] then
    { s with queue := { s.queue with lastHome := s.time.elapsed } }.checkTest false
  else s

/-- R116: an attempt with the request's station consumes a pending check request. -/
def State.attemptStart (s : State) (station : Text) : State :=
  if s.queue.request = some station then { s with queue := { s.queue with request := none } } else s

/-! ## Inbound side (R117 to R120) -/

/-- R118: what a first line gives. -/
structure FirstLine where
  msg      : Nat
  addressee : Addressee
  declared : Nat
  deriving DecidableEq, Repr

def addresseeOf (c : Byte) : Option Addressee :=
  if c = 0x42#8 then some .bridge
  else if c = 0x52#8 then some .radio
  else if c = 0x43#8 then some .catch_
  else if c = 0x41#8 then some .all
  else none

/-- R118: a first line parses. -/
def parseFirstLine (line : Text) : Option FirstLine :=
  match line with
  | p :: d1 :: d2 :: d3 :: d4 :: s1 :: a :: s2 :: rest =>
    let len := rest.dropLast
    match valueOf [d1, d2, d3, d4], addresseeOf a, valueOf len with
    | some m, some who, some n =>
      if p = 0x2B#8 ∧ s1 = 0x20#8 ∧ s2 = 0x20#8 ∧ rest.getLast? = some 0x0A#8 ∧ 1 ≤ m ∧
         1 ≤ len.length ∧ len.length ≤ 4 ∧ len.head? ≠ some 0x30#8 ∧ 1 ≤ n ∧ n ≤ 8192
      then some ⟨m, who, n⟩ else none
    | _, _, _ => none
  | _ => none

/-- R118: the buffer is parsed at a line end, or at 13 characters. -/
def lineReady (buffer : Text) : Bool := decide (buffer.getLast? = some 0x0A#8) || decide (13 ≤ buffer.length)

/-- The INBOUND record in a slot. -/
def State.inboundRec (s : State) (n : Nat) : Option Inbound :=
  match s.record n with
  | some ⟨_, _, .inbound i⟩ => some i
  | _ => none

def State.modInbound (s : State) (n : Nat) (f : Inbound → Inbound) : State :=
  match s.record n with
  | some ⟨o, c, .inbound i⟩ => { s with store := s.store.setSlot n (some ⟨o, c, .inbound (f i)⟩) }
  | _ => s

/-- R117: what the characters of a frame need: mode, buffer, length and declared length of the current
record, and the slots and pages needed so far. -/
structure InboundNeed where
  mode     : InMode
  buffer   : Text
  length   : Nat
  declared : Nat
  slots    : Nat
  pages    : Nat
  deriving DecidableEq, Repr

/-- R69: a character appended at this length opens a new page. -/
def opensPage (length : Nat) : Nat := if length % Config.pageChars = 0 then 1 else 0

/-- R117: one character's need. -/
def InboundNeed.char (w : InboundNeed) (c : Byte) : InboundNeed :=
  match w.mode with
  | .header =>
    let buffer := w.buffer ++ [c]
    if lineReady buffer then
      match parseFirstLine buffer with
      | some l => { mode := .body, buffer := [], length := 0, declared := l.declared, slots := w.slots + 1, pages := w.pages }
      | none => { mode := .raw, buffer := [], length := buffer.length, declared := 0, slots := w.slots + 1,
                  pages := w.pages + pagesFor buffer.length }
    else { w with buffer := buffer }
  | .body =>
    let w := { w with length := w.length + 1, pages := w.pages + opensPage w.length }
    if w.length = w.declared then { w with mode := .header } else w
  | .raw =>
    if w.length < Config.maxText then { w with length := w.length + 1, pages := w.pages + opensPage w.length } else w

/-- R117: the need of a whole frame from the side as it stands. -/
def State.inboundNeed (s : State) (text : Text) : InboundNeed :=
  let cur := s.inbound.current.bind s.inboundRec
  let w0 : InboundNeed :=
    { mode := s.inbound.mode, buffer := s.inbound.buffer, length := cur.elim 0 fun i => i.text.length,
      declared := (cur.bind (·.declared)).getD 0, slots := 0, pages := 0 }
  text.foldl InboundNeed.char w0

/-- Appends a character to the current record, with a page from the free list when it needs one. -/
def State.inboundAppend (s : State) (n : Nat) (c : Byte) : State :=
  match s.inboundRec n with
  | none => s
  | some i =>
    let t := s.store.takePages (opensPage i.text.length)
    { s with store := t.2 }.modInbound n fun i => { i with text := i.text ++ [c], pages := i.pages ++ t.1 }

/-- R118, R120: INBOUND is raised on the ports whose role matches the addressee. -/
def State.raiseInbound (s : State) (who : Addressee) : State :=
  s.raiseOn .inbound fun _ r => match who with
    | .all => true
    | .bridge => isBridge r
    | .radio => isRadio r
    | .catch_ => isCatch r

/-- R118, R119: creates the INBOUND record of a first line. -/
def State.inboundCreate (s : State) (l : Option FirstLine) : State :=
  let i : Inbound :=
    { state := .receiving, coastMsg := l.map (·.msg), addressee := l.elim .all (·.addressee), declared := l.map (·.declared),
      read := false, noHeader := l.isNone, text := [], pages := [] }
  let c := s.store.create { origin := none, created := s.stamp, body := .inbound i }
  { s with store := c.2,
           inbound := { s.inbound with mode := if l.isSome then .body else .raw, buffer := [], current := some c.1 } }

/-- R118, R119: one character applied; the list collects the coast message numbers receipts are owed for. -/
def State.inboundChar (s : State) (owed : List Nat) (c : Byte) : State × List Nat :=
  match s.inbound.mode, s.inbound.current with
  | .header, _ =>
    let buffer := s.inbound.buffer ++ [c]
    if lineReady buffer then
      match parseFirstLine buffer with
      | some l => (s.inboundCreate (some l), owed)
      | none =>
        let t := s.inboundCreate none
        (buffer.foldl (fun t c => t.inboundAppend (t.inbound.current.getD 0) c) t, owed)
    else ({ s with inbound := { s.inbound with buffer := buffer } }, owed)
  | .body, some n =>
    let s := s.inboundAppend n c
    match s.inboundRec n with
    | some i =>
      if some i.text.length = i.declared then
        let s := (s.modInbound n fun i => { i with state := .complete }).raiseInbound i.addressee
        ({ s with inbound := { s.inbound with mode := .header, current := none } }, owed ++ i.coastMsg.toList)
      else (s, owed)
    | none => (s, owed)
  | .raw, some n =>
    match s.inboundRec n with
    | some i =>
      if i.text.length < Config.maxText then (s.inboundAppend n c, owed)
      else ({ s with inbound := { s.inbound with discarded := satAdd 65535 s.inbound.discarded 1 } }, owed)
    | none => (s, owed)
  | .body, none | .raw, none => (s, owed)

/-- R117: an offer of a frame's characters. `none` is REFUSED by a store without room, and the caller
keeps the state with STORE_LOW raised; otherwise ACCEPTED with the receipts owed. -/
def State.inboundOffer (s : State) (text : Text) : Option (State × List Nat) :=
  let w := s.inboundNeed text
  if w.slots = 0 ∧ w.pages = 0 then some (text.foldl (fun (p : State × List Nat) c => p.1.inboundChar p.2 c) (s, []))
  else match s.store.request s.clock w.slots w.pages with
    | none => none
    | some st =>
      let r := text.foldl (fun (p : State × List Nat) c => p.1.inboundChar p.2 c) ({ s with store := st }, [])
      some (r.1.lowTest, r.2)

/-- R118: the message is held. -/
def State.inboundHeld (s : State) (msg : Nat) : Bool :=
  s.store.slots.any fun r => match r with
    | some ⟨_, _, .inbound i⟩ => decide (i.state = .complete) && decide (i.coastMsg = some msg)
    | _ => false

/-- R120: a link end. -/
def State.inboundEnd (s : State) : State :=
  let s := match s.inbound.current with
    | some n =>
      match s.inboundRec n with
      | some i => if i.state = InState.receiving then (s.modInbound n fun i => { i with state := .incomplete }).raiseInbound i.addressee else s
      | none => s
    | none => s
  { s with inbound := { mode := .header, buffer := [], current := none,
                        discarded := satAdd 65535 s.inbound.discarded s.inbound.buffer.length } }

end Sys2Proof.Machine
end

