-- ==== Sys2Proof/Machine/LinkEngine.lean ====
section
/-! DEFINITION. The traffic link engine (R121 to R143) and the station channel order (R36). -/
namespace Sys2Proof.Machine

/-! ## Station channel order (R36) -/

/-- R36: an entry stands before another: higher score, then higher smoothed level with none below 0. -/
def betterChannel (a b : Channel) : Bool :=
  decide (b.score < a.score) ||
  (decide (a.score = b.score) && match a.smooth, b.smooth with
    | some x, some y => decide (y < x)
    | some _, none => true
    | none, _ => false)

/-- R36: inserts an entry behind those that are at least as good; equal ones stay in index order. -/
def State.rankChannel (s : State) (i : Nat) : List Nat → List Nat
  | [] => [i]
  | j :: rest => if betterChannel (s.channel i) (s.channel j) then i :: j :: rest else j :: s.rankChannel i rest

/-- R36: the station channel order. -/
def State.stationOrder (s : State) (station : Text) : List Nat :=
  let all := (s.entriesOf fun r => decide (r = .traffic)).filter fun i => decide ((s.channel i).station = station)
  let sound := all.filter fun i => !(s.channel i).poor
  (if sound.isEmpty then all else sound).foldl (fun l i => s.rankChannel i l) []

/-! ## Ends (R142) -/

/-- R142. -/
inductive LinkEnd | cleared | busy | noAnswer | linkLost | abandoned
  deriving DecidableEq, Repr

/-- R114: the failure an end hands the queue. -/
def LinkEnd.failure : LinkEnd → Option FailReason
  | .busy => some .busy
  | .noAnswer => some .noAnswer
  | .linkLost => some .linkLost
  | .cleared | .abandoned => none

def State.setLink (s : State) (l : Link) : State := { s with link := l }

/-- R142: the end of a link or attempt, in its order. A release that finds the grant revoked has no
effect, and one from WAIT_GRANT withdraws the claim (R53). -/
def State.endLink (s : State) (e : LinkEnd) : State :=
  let station := s.link.station.getD []
  let s := match e.failure, s.link.current with
    | none, some n => s.returnToQueue n
    | _, _ => s
  let s := match e.failure with
    | some why => s.attemptFailure why station
    | none => s
  let s := ((s.attemptEnd station).inboundEnd).release .link
  (s.setLink Link.reset).post .linkTest

/-! ## Starting and calling (R125 to R128) -/

/-- R125: the conditions. -/
def State.linkMayStart (s : State) : Bool := !s.gateClosed && decide (s.ident.vessel ≠ [])

/-- R125: the station of the reason to start. -/
def State.linkReason (s : State) : Option Text :=
  match s.headDue with
  | some n => (s.outbound n).map (·.dest)
  | none => s.queue.request

/-- R125: an IDLE engine tests its starting conditions. -/
def State.linkTest (s : State) : State :=
  if s.link.state = .idle ∧ s.linkMayStart = true then
    match s.linkReason with
    | some station =>
      ((s.attemptStart station).setLink { Link.reset with state := .waitGrant, station := some station }).claim .link
    | none => s
  else s

/-- R126, R127: a tune request to a position of the channel order, 1 the first; past its end the
attempt ends as NO_ANSWER. -/
def State.linkTunePosition (s : State) (k : Nat) : State :=
  match s.link.order[k - 1]? with
  | some i => (s.setLink { s.link with state := .settling, channel := some i, index := k, callTry := 1 }).tuneTo .link i
  | none => s.endLink .noAnswer

/-- R126: on GRANTED. -/
def State.linkGranted (s : State) : State :=
  if s.link.state = .waitGrant ∧ s.holder = some .link then
    (s.setLink { s.link with order := (s.stationOrder (s.link.station.getD [])).take 4 }).linkTunePosition 1
  else s

/-- R121: the C frame's payload. -/
def State.callPayload (s : State) : Text := s.link.station.getD [] ++ [0x20#8] ++ s.ident.vessel

/-- R127: a call burst. -/
def State.sendCall (s : State) : State :=
  ((s.setLink { s.link with state := .calling }).txRequest .link).offer .link
    (burst [linkFrame 'C' 0 s.callPayload])

/-- R126: SETTLED. -/
def State.linkSettled (s : State) : State := if s.link.state = .settling then s.sendCall else s

/-- R126: TUNE_REFUSED. -/
def State.linkTuneRefused (s : State) : State :=
  if s.link.state = .settling then s.linkTunePosition (s.link.index + 1) else s

/-- R127: an unanswered call. -/
def State.answerExpiry (s : State) : State :=
  if s.link.answerWait then
    let s := s.setLink { s.link with answerWait := false, turnWait := false }
    let s := match s.link.channel with
      | some i => s.score i (-4)
      | none => s
    if s.link.callTry < 3 then (s.setLink { s.link with callTry := s.link.callTry + 1 }).sendCall
    else s.linkTunePosition (s.link.index + 1)
  else s

/-- R128: the link connects. -/
def Link.connect (l : Link) : Link :=
  { l with connected := true, answerWait := false, sendNext := 0, recvNext := 0, silent := 0, quiet := 0,
           outstanding := [], owed := [], setAside := [] }

/-! ## Frames received (R121) -/

def FrameRec.isGood (r : FrameRec) (kind : Char) : Bool :=
  decide (r.verdict = .good) && decide (r.kind = some (letterSym kind))

def FrameRec.text (r : FrameRec) : Text := groupText r.payload

/-- R121: a payload that is a message number in 4 digits; 0000 has that form too (the model's choice, log 42). -/
def FrameRec.number (r : FrameRec) : Option Nat := if r.payload.length = 4 then valueOf r.text else none

/-- R134: the digit of a GOOD A frame. -/
def FrameRec.ackDigit (r : FrameRec) : Option Nat :=
  if r.isGood 'A' then
    match r.payload with
    | [g] => g.digit.bind fun d => if d ≤ 7 then some d else none
    | _ => none
  else none

/-- R143: the score event of a frame. -/
def State.linkScore (s : State) (r : FrameRec) : State :=
  match s.link.channel, r.verdict with
  | some i, .good => s.score i 2
  | some i, .bad => s.score i (-2)
  | _, _ => s

/-- R127, R132: a frame record handed to the link engine. -/
def State.linkFrameIn (s : State) (r : FrameRec) : State :=
  let s := s.linkScore r
  match s.link.state with
  | .calling =>
    if s.link.answerWait then
      if r.isGood 'K' = true ∧ r.text = s.ident.vessel then s.setLink s.link.connect
      else if r.isGood 'B' = true ∧ r.payload = [] then
        (s.setLink { s.link with answerWait := false, turnWait := false }).endLink .busy
      else s
    else s
  | .awaitReply | .clearing =>
    if s.link.turnWait then s.setLink { s.link with replies := s.link.replies ++ [r] } else s
  | .idle | .waitGrant | .settling | .sendBurst => s

/-- R132: phasing heard in the coast's turn. -/
def State.linkPhasing (s : State) : State :=
  if s.link.phasingWait then s.setLink { s.link with phasingWait := false, silent := 0 } else s

/-! ## Composing a connected burst (R129 to R131) -/

/-- R129: the current message is chosen. -/
def State.takeUp (s : State) : State :=
  match s.link.current with
  | some _ => s
  | none =>
    match s.nextDue (s.link.station.getD []) s.link.setAside with
    | none => s
    | some n =>
      let s := s.modOutbound n fun o => { o with state := .sending }
      match s.outbound n with
      | none => s
      | some o =>
        s.setLink { s.link with current := some n, requests := 0, notHeld := 0, cut := o.resume,
                                mDue := decide (0 < o.resume) && decide (o.resume < o.streamLength) }

/-- R130: the next new sequenced frame of the current message, its kind, offset and character count. -/
def State.newFrame (s : State) : Option (SeqKind × Nat × Nat) :=
  match s.link.current.bind s.outbound with
  | none => none
  | some o =>
    if s.link.mDue then some (.m, o.resume, 0)
    else if s.link.cut < o.streamLength then some (.d, s.link.cut, min 16 (o.streamLength - s.link.cut))
    else if o.resume = o.streamLength ∧ s.link.outstanding = [] ∧ s.link.requests < 2 then some (.p, 0, 0)
    else none

/-- R130: a new sequenced frame joins the outstanding list. -/
def Link.addFrame (l : Link) (k : SeqKind) (offset count : Nat) : Link :=
  let e : Outstanding := ⟨l.sendNext, k, l.current.getD 0, offset, count, 0⟩
  let l := { l with outstanding := l.outstanding ++ [e], sendNext := (l.sendNext + 1) % 8 }
  match k with
  | .m => { l with mDue := false }
  | .d => { l with cut := l.cut + count }
  | .p => { l with requests := l.requests + 1 }

/-- R131: new frames while fewer than 4 are outstanding and fewer than 6 frames placed. -/
def State.addFrames (s : State) (receipts : Nat) : Nat → State
  | 0 => s
  | fuel + 1 =>
    if s.link.outstanding.length < 4 ∧ 1 + receipts + s.link.outstanding.length < 6 then
      match s.newFrame with
      | some (k, offset, count) => (s.setLink (s.link.addFrame k offset count)).addFrames receipts fuel
      | none => s
    else s

/-- R121, R130: the symbols of an outstanding frame; the stream is built at each send (R72). -/
def State.outstandingFrame (s : State) (e : Outstanding) : List Symbol :=
  match s.outbound e.slot with
  | none => []
  | some o =>
    let number := digits 4 (o.msg.getD 0)
    match e.kind with
    | .m => linkFrame 'M' e.seq (number ++ [0x20#8] ++ decimal e.offset)
    | .d => linkFrame 'D' e.seq ((o.stream.drop e.offset).take e.count)
    | .p => linkFrame 'P' e.seq number

/-- R131: an owed receipt's frame. -/
def owedFrame (p : Nat × Bool) : List Symbol := linkFrame (if p.2 then 'Q' else 'N') 0 (digits 4 p.1)

/-- R138: the composition places an L frame. `noD`: the coast burst just taken carried no D frame record. -/
def State.clears (s : State) (noD : Bool) : Bool :=
  s.link.current.isNone && s.link.outstanding.isEmpty && noD &&
  match s.link.state with
  | .clearing => true
  | .awaitReply => decide (s.inbound.mode ≠ .body) || decide (s.link.quiet = 2)
  | .idle | .waitGrant | .settling | .calling | .sendBurst => false

/-- R131: a connected burst is composed and sent. -/
def State.compose (s : State) (noD : Bool) : State :=
  if s.link.outstanding.any fun e => decide (6 ≤ e.sends) then s.endLink .linkLost
  else
    let s := s.takeUp
    let last := s.clears noD
    let receipts := min s.link.owed.length (5 - s.link.outstanding.length - if last then 1 else 0)
    let s := if last then s else s.addFrames receipts 4
    let l := s.link
    let frames := [linkFrame 'A' 0 (decimal l.recvNext)] ++ (l.owed.take receipts).map owedFrame ++
      (if last then [linkFrame 'L' 0 []] else l.outstanding.map s.outstandingFrame)
    let l := { l with outstanding := l.outstanding.map fun e => { e with sends := e.sends + 1 },
                      placed := receipts, replies := [], phasingWait := false, turnWait := false,
                      state := if last then .clearing else .sendBurst }
    ((s.setLink l).txRequest .link).offer .link (burst frames)

/-- R127, R131: the link's transmission is complete. -/
def State.linkCompleted (s : State) : State :=
  if s.link.ending then s.endLink .abandoned
  else match s.link.state with
    | .calling => s.setLink { s.link with answerWait := true, turnWait := true }
    | .sendBurst =>
      s.setLink { s.link with state := .awaitReply, owed := s.link.owed.drop s.link.placed, placed := 0,
                              phasingWait := true, turnWait := true, replies := [] }
    | .clearing =>
      s.setLink { s.link with owed := s.link.owed.drop s.link.placed, placed := 0, phasingWait := true,
                              turnWait := true, replies := [] }
    | .idle | .waitGrant | .settling | .awaitReply => s

/-! ## The end of a coast burst (R132 to R139) -/

/-- R134: one acknowledged frame advances the resume point by its characters. -/
def State.acknowledge (s : State) (e : Outstanding) : State :=
  match e.kind with
  | .d => s.modOutbound e.slot fun o => { o with resume := o.resume + e.count }
  | .m | .p => s

/-- R134: the first pass, with whether a P was acknowledged. -/
def State.ackPass (s : State) : State × Bool :=
  match s.link.replies.head?.bind FrameRec.ackDigit, s.link.outstanding with
  | some e, first :: rest =>
    let k := (e + 8 - first.seq) % 8
    if 1 ≤ k ∧ k ≤ rest.length + 1 then
      let acked := (first :: rest).take k
      ((acked.foldl State.acknowledge s).setLink { s.link with outstanding := (first :: rest).drop k },
       acked.any fun e => decide (e.kind = .p))
    else (s, false)
  | _, _ => (s, false)

/-- R131: an owed receipt is added. -/
def addOwed (l : List (Nat × Bool)) (n : Nat) (held : Bool) : List (Nat × Bool) :=
  let l := l.filter fun p => decide (p.1 ≠ n)
  (if 8 ≤ l.length then l.drop 1 else l) ++ [(n, held)]

/-- R135: one frame of the second pass. -/
def State.takeSequenced (s : State) (r : FrameRec) : State :=
  if r.sequence = some s.link.recvNext then
    let next := (s.link.recvNext + 1) % 8
    if r.isGood 'D' = true ∧ 1 ≤ r.payload.length ∧ r.payload.length ≤ 16 then
      match s.inboundOffer r.text with
      | some (t, owed) =>
        t.setLink { t.link with recvNext := next, owed := owed.foldl (fun l n => addOwed l n true) t.link.owed }
      | none => s.raiseAll .storeLow
    else if r.isGood 'P' then
      match r.number with
      | some n => s.setLink { s.link with recvNext := next, owed := addOwed s.link.owed n (s.inboundHeld n) }
      | none => s
    else s
  else s

/-- R137: the answer to an acknowledged P: `true` for Q, `false` for N. -/
def receiptAnswer (replies : List FrameRec) (msg : Option Nat) : Option Bool :=
  (replies.find? fun r => (r.isGood 'Q' || r.isGood 'N') && r.number.isSome && decide (r.number = msg)).map
    fun r => r.isGood 'Q'

/-- R137: what an acknowledged P brings. -/
def State.receiptPass (s : State) (replies : List FrameRec) : State :=
  match s.link.current with
  | none => s
  | some n =>
    match receiptAnswer replies ((s.outbound n).bind (·.msg)) with
    | some true => (s.deliverMessage n).setLink { s.link with current := none }
    | some false =>
      if s.link.notHeld = 0 then
        (s.modOutbound n fun o => { o with resume := 0 }).setLink
          { s.link with notHeld := 1, requests := 0, cut := 0, mDue := false }
      else (s.failMessage n .notHeldLimit).setLink { s.link with current := none }
    | none =>
      if s.link.requests < 2 then s
      else (s.returnToQueue n).setLink { s.link with current := none, setAside := s.link.setAside ++ [n] }

/-- R138: the quiet turn count after a coast burst. -/
def State.quietTurn (s : State) (noD : Bool) : Nat :=
  if noD = false ∨ s.inbound.mode ≠ .body then 0
  else if s.link.current = none ∧ s.nextDue (s.link.station.getD []) s.link.setAside = none ∧ s.link.outstanding = [] then
    min 2 (s.link.quiet + 1)
  else s.link.quiet

/-- R132: the coast burst ends: acknowledgment, sequenced frames, Q, N and L frames, then the next burst. -/
def State.coastBurstEnd (s : State) : State :=
  let s := s.setLink { s.link with turnWait := false }
  let replies := s.link.replies
  let a := s.ackPass
  let s := replies.foldl State.takeSequenced a.1
  let s := if a.2 then s.receiptPass replies else s
  if replies.any fun r => r.isGood 'L' && r.payload.isEmpty then s.endLink .cleared
  else
    let noD := !replies.any fun r => decide (r.kind = some (letterSym 'D'))
    (s.setLink { s.link with quiet := s.quietTurn noD, replies := [] }).compose noD

/-- R133: a silent turn. -/
def State.phasingExpiry (s : State) : State :=
  if s.link.phasingWait then
    let s := match s.link.channel with
      | some i => s.score i (-3)
      | none => s
    let s := s.setLink { s.link with phasingWait := false, turnWait := false, silent := s.link.silent + 1 }
    if s.link.state = .clearing then
      if 2 ≤ s.link.silent then s.endLink .cleared else s.compose true
    else if 3 ≤ s.link.silent then s.endLink .linkLost
    else s.compose true
  else s

/-- R128, R132: turn received, or the expiry of the turn wait, after phasing heard. -/
def State.linkTurn (s : State) : State :=
  if s.link.turnWait then
    match s.link.state with
    | .calling =>
      if s.link.connected then (s.setLink { s.link with turnWait := false, replies := [] }).compose true else s
    | .awaitReply | .clearing => if s.link.phasingWait then s else s.coastBurstEnd
    | .idle | .waitGrant | .settling | .sendBurst => s
  else s

/-- R132: the turn wait runs out. -/
def State.turnExpiry (s : State) : State :=
  let s' := s.linkTurn
  if s'.link = s.link then s.setLink { s.link with turnWait := false } else s'

/-! ## Abandonment (R140) -/

/-- R140: LINK is in TX. -/
def State.linkInTx (s : State) : Bool := decide (s.holder = some .link) && decide (s.phase = some .tx)

/-- R140: an abandonment cause other than REVOKED and KEY_FAULT. -/
def State.linkAbandon (s : State) : State :=
  if s.link.state = .idle ∨ s.link.ending = true then s
  else if s.linkInTx then (s.setLink { s.link with ending := true }).trim
  else s.endLink .abandoned

/-- R140: REVOKED and KEY_FAULT find the transmission ended, so the link ends at once, its ending
already under way or not (log 34). -/
def State.linkCut (s : State) : State := if s.link.state = .idle then s else s.endLink .abandoned

end Sys2Proof.Machine
end

