-- ==== Sys2Proof/Machine/BulletinEngine.lean ====
section
/-! DEFINITION. The broadcast schedule and the bulletin engine (R144 to R159). Clock readings of the
schedule are compared as seconds from 2000-01-01 00:00:00. -/
namespace Sys2Proof.Machine

/-! ## Occurrences (R147) -/

/-- R147: the repeat interval in seconds. -/
def Window.period (w : Window) : Int := w.every * 3600

/-- R144: HHMM as seconds of the day. -/
def Window.startSecond (w : Window) : Int := (w.start / 100 * 3600 + w.start % 100 * 60 : Nat)

/-- R147: the latest nominal start at or before an instant. -/
def Window.nominalBefore (w : Window) (t : Int) : Int := t - (t - w.startSecond) % w.period

/-- R147: the instant is a nominal start. -/
def Window.isNominal (w : Window) (t : Int) : Bool := decide (w.nominalBefore t = t)

/-- R147: in HOLDOVER a span begins two minutes early and ends two minutes late. -/
def spanMargin (t : TimeState) : Int :=
  match t with
  | .holdover => 120
  | .locked | .unset => 0

/-- R147: the span of the occurrence with a nominal start. Seconds that lie outside the clock's range are kept (the
model's choice, log 44). -/
def Window.spanOf (w : Window) (t : TimeState) (nominal : Int) : Int × Int :=
  (nominal - spanMargin t, nominal + w.duration * 60 + spanMargin t)

/-- R145, R147: the next start, strictly after the clock reading (log 27). In HOLDOVER the occurrence whose early start
has passed is passed over, IDLE window or not (the model's choice, log 43). -/
def Window.nextStart (w : Window) (t : TimeState) (now : Int) : Option Int :=
  if w.enabled = true ∧ t ≠ .unset then some (w.nominalBefore (now + spanMargin t) + w.period - spanMargin t) else none

/-- R148: the nominal start for which a minute is a start. -/
def Window.startAt (w : Window) (t : TimeState) (minute : Int) : Option Int :=
  if w.isNominal minute then some minute
  else if t = .holdover ∧ w.isNominal (minute + 120) = true then some (minute + 120)
  else none

def Window.toDue (w : Window) (span : Int × Int) : Window := { w with state := .due, span := some span }

def Window.toIdle (w : Window) : Window := { w with state := .idle, span := none }

/-- R148: step 1 for one window. -/
def Window.started (w : Window) (t : TimeState) (minute : Int) : Window :=
  if w.enabled then
    match w.startAt t minute with
    | none => w
    | some nominal =>
      let span := w.spanOf t nominal
      match w.state, w.span with
      | .idle, _ => w.toDue span
      | _, some (a, b) => { w with span := some (a, max b span.2) }
      | _, none => w
  else w

/-- R151: the span holds the instant and ends at least 60 seconds after it. -/
def spanServes (span : Int × Int) (now : Int) : Bool := decide (span.1 ≤ now) && decide (now + 60 ≤ span.2)

/-- R151: step 3 for one window; of two occurrences the later is taken (log 26). -/
def Window.dueTest (w : Window) (t : TimeState) (now : Int) : Window :=
  if w.enabled = true ∧ w.state = .idle ∧ t ≠ .unset then
    let nominal := w.nominalBefore (now + spanMargin t)
    let late := w.spanOf t nominal
    let early := w.spanOf t (nominal - w.period)
    if spanServes late now then w.toDue late else if spanServes early now then w.toDue early else w
  else w

/-! ## Counts (R159) -/

def State.setBull (s : State) (b : BulletinEngine) : State := { s with bull := b }

/-- R159: the outcomes a part, or a block, is counted under. -/
inductive PartCount | stored | duplicate | filtered | inferior | dropped | empty | overlong
  deriving DecidableEq, Repr

def count16 (n : Nat) : Nat := satAdd 65535 n 1

def BulletinEngine.counted (b : BulletinEngine) : PartCount → BulletinEngine
  | .stored => { b with stored := count16 b.stored }
  | .duplicate => { b with duplicate := count16 b.duplicate }
  | .filtered => { b with filtered := count16 b.filtered }
  | .inferior => { b with inferior := count16 b.inferior }
  | .dropped => { b with dropped := count16 b.dropped }
  | .empty => { b with empty := count16 b.empty }
  | .overlong => { b with overlong := count16 b.overlong }

def State.countPart (s : State) (c : PartCount) : State := s.setBull (s.bull.counted c)

def State.setRecv (s : State) (r : Option Reception) : State := s.setBull { s.bull with recv := r }

/-! ## Closing a part (R155 to R158) -/

/-- R158: the month an issue day lies in, at or before a month. -/
def issueMonth (day : Nat) : Nat → Nat → Nat → Nat × Nat
  | 0, y, m => (y, m)
  | fuel + 1, y, m =>
    if day ≤ monthLength y m then (y, m)
    else if m = 1 then issueMonth day fuel (y - 1) 12 else issueMonth day fuel y (m - 1)

/-- R158: the issue time at a clock reading. -/
def issueTime (now : Reading) (day hour : Nat) : Reading :=
  let ym :=
    if day ≤ now.day then issueMonth day 12 now.year now.month
    else if now.month = 1 then issueMonth day 12 (now.year - 1) 12
    else issueMonth day 12 now.year (now.month - 1)
  ⟨ym.1, ym.2, day, hour, 0, 0⟩

/-- R158: 36 hours after the issue time. -/
def expiryOf (now : Reading) (key : BulletinKey) : Int := instant (issueTime now key.day key.hour) + 36 * 3600

/-- R157: a part is stored. -/
def State.partStored (s : State) : State := (s.countPart .stored).raiseAll .bulletin

/-- R156: a closed part is disposed of against the store as it stands. -/
def State.disposePart (s : State) (p : OpenPart) (taken : Nat) : State :=
  if taken = 0 then s.partDrop.countPart .empty
  else match s.store.bulletinOf p.key with
    | none =>
      match s.partAttachNew (expiryOf s.time.reading p.key) with
      | some t =>
        let t := t.partStored
        if isWarning p.key.subject then (t.raiseAll .warning).alarmEvent .warning else t
      | none => ((s.raiseAll .storeLow).partDrop).countPart .dropped
    | some (n, b) =>
      if b.count < p.number then s.partDrop.countPart .filtered
      else match b.parts.find? fun e => decide (e.number = p.number) with
        | none => (s.partAttach n).partStored
        | some e =>
          if p.damaged < e.damaged then (s.partReplace n).partStored else s.partDrop.countPart .inferior

/-- R155: an open part is closed with an addition to its damaged count. -/
def State.closePart (s : State) (addition : Nat) : State :=
  match s.bull.recv, s.store.part with
  | some (.open_ _ taken), some p =>
    let p := { p with damaged := p.damaged + addition, received := some s.stamp }
    ({ s with store := { s.store with part := some p } }.disposePart p taken).setRecv (some .hunt)
  | _, _ => s

/-! ## The claim (R149, R150) -/

/-- R149: the claimant for a window. -/
def Window.claimant (w : Window) : Claimant := if w.mandatory then .bulletinMandatory else .bulletinOrdinary

/-- The DUE windows of one kind, in ascending index. -/
def State.dueWindows (s : State) (mandatory : Bool) : List Nat :=
  (List.range s.windows.length).filter fun i =>
    decide ((s.window i).state = .due) && decide ((s.window i).mandatory = mandatory)

/-- R149: the first DUE window. -/
def State.firstDue (s : State) : Option Nat := (s.dueWindows true ++ s.dueWindows false).head?

/-- R149: the engine claims for a window. -/
def State.bullClaim (s : State) (i : Nat) : State :=
  (s.setBull { s.bull with claim := some i }).claim (s.window i).claimant

/-- R149, R150, R155: the engine gives up its claim or grant; a part in progress closes first. -/
def State.bullYield (s : State) : State :=
  match s.bull.claim with
  | none => s
  | some w =>
    let s := s.closePart 32
    (s.setBull { s.bull with claim := none, recv := none }).release (s.window w).claimant

/-- The engine claims for the first DUE window, if there is one. -/
def State.bullClaimFirst (s : State) : State :=
  match s.firstDue with
  | none => s
  | some v => s.bullClaim v

/-- R149: the engine reviews its claim. -/
def State.bullReview (s : State) : State :=
  match s.bull.claim with
  | none => s.bullClaimFirst
  | some w =>
    if (s.window w).state = .active then
      match s.firstDue with
      | some v =>
        if (s.window w).mandatory = false ∧ (s.window v).mandatory = true then
          (s.bullYield.modWindow w fun x => { x with state := .due }).bullClaimFirst
        else s
      | none => s
    else if s.firstDue = some w then s
    else s.bullYield.bullClaimFirst

/-- R148: a window is missed. -/
def State.missWindow (s : State) (i : Nat) : State :=
  (s.modWindow i fun w => { w.toIdle with missed := satAdd 255 w.missed 1 }).raiseOn .missedWindow fun _ r => isBridgeRadio r

/-- R150: an ACTIVE window's occurrence is over; a waiting claim is left to the review. -/
def State.finishWindow (s : State) (i : Nat) : State :=
  (if s.bull.claim = some i ∧ (s.window i).state = .active then s.bullYield else s).modWindow i Window.toIdle

/-- R150: the claim window cannot be served. -/
def State.bullUnserved (s : State) (w : Nat) : State := (s.bullYield.missWindow w).bullReview

/-- R150: on GRANTED. -/
def State.bullGranted (s : State) (c : Claimant) : State :=
  match s.bull.claim with
  | none => s
  | some w =>
    if (s.window w).state = .due ∧ (s.window w).claimant = c then
      let s := s.modWindow w fun x => { x with state := .active }
      let i := (s.window w).channel
      if (s.channel i).valid = true ∧ (s.channel i).role = .broadcast then s.tuneTo c i else s.bullUnserved w
    else s

/-- The claim window while it is ACTIVE. -/
def State.activeWindow (s : State) : Option Nat :=
  s.bull.claim.bind fun w => if (s.window w).state = .active then some w else none

/-- R150: on SETTLED. -/
def State.bullSettled (s : State) : State := if s.activeWindow.isSome then s.setRecv (some .hunt) else s

/-- R150: on TUNE_REFUSED. -/
def State.bullTuneRefused (s : State) : State :=
  match s.activeWindow with
  | some w => s.bullUnserved w
  | none => s

/-- R150: a release request, or REVOKED, which finds the grant gone and so nothing to release (R53). -/
def State.bullInterrupted (s : State) : State :=
  match s.activeWindow with
  | some w => (s.bullYield.modWindow w fun x => { x with state := .due }).bullReview
  | none => s

/-! ## Events of the clock (R148, R151) -/

/-- R148: step 2 for one window. -/
def State.endWindow (s : State) (minute : Int) (i : Nat) : State :=
  match (s.window i).span with
  | some (_, b) =>
    if (s.window i).enabled = true ∧ b = minute then
      if (s.window i).state = .active then s.finishWindow i else s.missWindow i
    else s
  | none => s

/-- R148: a clock minute. R147: ignored in UNSET. -/
def State.bullMinute (s : State) (minute : Reading) : State :=
  if s.time.state = .unset then s
  else
    let m := instant minute
    let s := { s with windows := s.windows.map fun (w : Window) => w.started s.time.state m }
    ((List.range s.windows.length).foldl (fun (s : State) i => s.endWindow m i) s).bullReview

/-- R151: step 2 for one window. -/
def State.compareWindow (s : State) (i : Nat) : State :=
  match (s.window i).span with
  | some (a, b) =>
    if b ≤ s.clock then
      if (s.window i).state = .active then s.finishWindow i else s.missWindow i
    else if s.clock < a then s.finishWindow i
    else s
  | none => s

/-- R151: steps 3 and 4. -/
def State.bullDueTest (s : State) : State :=
  { s with windows := s.windows.map fun (w : Window) => w.dueTest s.time.state s.clock }.bullReview

/-- R151: an accepted TSET. -/
def State.bullTimeSet (s : State) : State :=
  ((List.range s.windows.length).foldl State.compareWindow s).bullDueTest

/-- R151: step 1 and step 4, at a clock wrap. -/
def State.bullUnset (s : State) : State :=
  ({ s.bullYield with windows := s.windows.map Window.toIdle }).bullReview

/-- R151: a reset is complete. -/
def State.bullStart (s : State) : State := if s.time.state = .unset then s else s.bullDueTest

/-! ## Bulletin frames (R152 to R154) -/

/-- R152: a well-formed header. -/
structure Header where
  key    : BulletinKey
  number : Nat
  count  : Nat
  deriving DecidableEq, Repr

/-- F, W, I or N. -/
def isSubject (c : Byte) : Bool := decide (c ∈ chars ['F', 'W', 'I', 'N'])

/-- R152: the fields of an H frame's payload. -/
def parseHeader (t : Text) : Option Header :=
  match t with
  | [o1, o2, su, a1, a2, d1, d2, h1, h2, p, n] =>
    match valueOf [a1, a2], valueOf [d1, d2], valueOf [h1, h2], valueOf [p], valueOf [n] with
    | some area, some day, some hour, some number, some count =>
      if isUpper o1 = true ∧ isUpper o2 = true ∧ isSubject su = true ∧ 1 ≤ area ∧ area ≤ 40 ∧ 1 ≤ day ∧ day ≤ 31 ∧
         hour ≤ 23 ∧ 1 ≤ number ∧ number ≤ 8 ∧ 1 ≤ count ∧ count ≤ 8
      then some ⟨⟨[o1, o2], su, area, day, hour⟩, number, count⟩ else none
    | _, _, _, _, _ => none
  | _ => none

/-- R153: the tests of the claim window. -/
def Window.accepts (w : Window) (h : Header) (held : Option Bulletin) : Bool :=
  (isWarning h.key.subject || decide (h.key.subject ∈ w.subjects)) && decide (h.key.area ∈ w.areas) &&
  decide (h.number ≤ h.count) && (held.elim true fun b => decide (h.number ≤ b.count))

/-- R153: the store holds the part without damage. -/
def Bulletin.holdsClean (b : Bulletin) (number : Nat) : Bool :=
  b.parts.any fun e => decide (e.number = number) && decide (e.damaged = 0)

/-- R153: a header in HUNT. -/
def State.bullHeader (s : State) (w : Nat) (r : FrameRec) : State :=
  if r.verdict = Verdict.good then
    match parseHeader r.text with
    | none => s
    | some h =>
      let held := (s.store.bulletinOf h.key).map (·.2)
      if (s.window w).accepts h held then
        if held.elim false fun b => b.holdsClean h.number then s.countPart .duplicate
        else (s.partOpen h.key h.number h.count).setRecv (some (.open_ 0 0))
      else s.countPart .filtered
  else s

/-- R154: what a T frame record brings: block number, text, damaged characters; none when not taken.
The payload of a BAD frame that the body limit ended is 34 symbols at most, 32 of them text, so that a part of 32
blocks keeps to its 1,024 characters (log 15, the model's choice). -/
def blockOf (r : FrameRec) (expected : Nat) : Option (Nat × Text × Nat) :=
  let number := match r.payload with
    | g :: h :: _ => g.digit.bind fun a => h.digit.map fun b => a * 10 + b
    | _ => none
  let text := groupText (r.payload.drop 2)
  match r.verdict with
  | .good => number.bind fun b => if b ≤ 63 then some (b, text, 0) else none
  | .bad => some (number.getD expected, text, text.length)
  | .damaged => none

/-- R154: a T frame record in OPEN. -/
def State.bullBlock (s : State) (expected taken : Nat) (r : FrameRec) : State :=
  match blockOf r expected with
  | none => s
  | some (b, text, damaged) =>
    if b < expected then s
    else if 31 < b then s.countPart .overlong
    else match s.partExtend text (32 * (b - expected) + damaged) with
      | some t => t.setRecv (some (.open_ (b + 1) (taken + 1)))
      | none => (((s.raiseAll .storeLow).partDrop).countPart .dropped).setRecv (some .hunt)

/-- R152: the score event of a T frame record. -/
def State.bullScore (s : State) (w : Nat) (r : FrameRec) : State :=
  s.score (s.window w).channel (if r.verdict = Verdict.good then 1 else -1)

/-- R152 to R155: a frame record handed to the bulletin engine. -/
def State.bullFrame (s : State) (r : FrameRec) : State :=
  match s.activeWindow with
  | none => s
  | some w =>
    if r.kind = some (letterSym 'T') then
      let s := s.bullScore w r
      match s.bull.recv with
      | some (.open_ e n) => s.bullBlock e n r
      | some .hunt | none => s
    else if r.kind = some (letterSym 'H') then
      let s := s.closePart 32
      match s.bull.recv with
      | some .hunt => s.bullHeader w r
      | some (.open_ _ _) | none => s
    else s

end Sys2Proof.Machine
end

