-- ==== Sys2Proof/Machine/DistressUnit.lean ====
section
/-! DEFINITION. The distress unit: the own alert and its cycles, the frames heard on the watch receiver,
the heard list, the silence record (R160 to R178). -/
namespace Sys2Proof.Machine

/-! ## Frames (R103, R162, R163) -/

/-- R103: degrees in `width` digits, minutes in two, tenths in one, hemisphere. -/
def angleText (width : Nat) (a : Int) (plus minus : Byte) : Text :=
  let m := a.natAbs
  digits width (m / 600) ++ digits 2 (m % 600 / 10) ++ digits 1 (m % 10) ++ [if 0 ≤ a then plus else minus]

/-- R103: a position as written in a report and in an alert. -/
def positionText (lat lon : Int) : Text :=
  angleText 2 lat 0x4E#8 0x53#8 ++ [0x2F#8] ++ angleText 3 lon 0x45#8 0x57#8

/-- The text "?". -/
def unknownText : Text := [0x3F#8]

/-- R160: the own code. -/
def State.ownCode (s : State) : Text := if s.ident.vessel = [] then unknownText else s.ident.vessel

/-- R162: the kind letter of a cycle's frame. -/
def CycleKind.letter : CycleKind → Char
  | .alert => 'A'
  | .test => 'T'
  | .cancel => 'X'

/-- R163: the payload of a cycle's frame, with the position reading of this moment. -/
def State.alertPayload (s : State) (k : CycleKind) : Text :=
  let number := if k = .test then 0 else s.own.number
  let p := s.position
  spaced [s.ownCode, digits 2 number, [s.own.nature],
    if p.valid then positionText p.lat p.lon else unknownText,
    if p.valid then digits 2 p.fix.reading.hour ++ digits 2 p.fix.reading.minute else unknownText]

/-- R163: six phasing symbols and the frame three times over. -/
def State.alertList (s : State) (k : CycleKind) : List Symbol :=
  let f := alertFrame k.letter (s.alertPayload k)
  phasingSymbols ++ f ++ f ++ f

/-! ## State of the own alert (R161) -/

def State.setOwn (s : State) (o : OwnAlert) : State := { s with own := o }

/-- R161: a change of the own alert state, with OWN_ALERT and the neighbours it is handed to. The
repeat interval is stopped on entering CANCELLING or NONE (R169). -/
def State.setOwnState (s : State) (st : AlertState) : State :=
  let before := s.own.state
  if before = st then s
  else
    let o := { s.own with state := st,
                          repeatOn := if st = .cancelling ∨ st = .none then false else s.own.repeatOn }
    let s := (s.setOwn o).raiseAll .ownAlert
    let s := if before = .active ∨ st = .active then s.alarmActive .ownAlert (decide (st = .active)) else s
    let s := if before = .none then s.post .gateClosed else s
    if st = .none then s.post .linkTest else s

/-! ## Cycles (R167, R168) -/

def PendingAction.rank : PendingAction → Nat
  | .cycle .cancel => 3
  | .end_ => 2
  | .cycle .alert => 1
  | .cycle .test => 0

/-- R168: a pending action is written by precedence. -/
def Cycle.propose (c : Cycle) (a : PendingAction) : Cycle :=
  match c.action with
  | none => { c with action := some a }
  | some b => if b.rank < a.rank then { c with action := some a } else c

/-- R168: a tune request to the channel at a position of the list. -/
def State.cycleTune (s : State) (c : Cycle) (pos : Nat) : State :=
  { s with cycle := some { c with pos := pos, phase := .settling } }.tuneTo .distress (c.channels.getD pos 0)

/-- R167: the channel list of a cycle. -/
def State.cycleChannels (s : State) (k : CycleKind) : List Nat :=
  s.watchList.take (if k = .test then 1 else 4)

/-- R167: a cycle begins, in place of any other, with the pending action none. -/
def State.beginCycle (s : State) (k : CycleKind) : State :=
  let l := s.cycleChannels k
  let s := if k = .alert then s.setOwn { s.own with repeatOn := true } else s
  if l = [] then
    let s := if s.own.noChannel then s else (s.setOwn { s.own with noChannel := true }).raiseAll .fault
    let s := if k = .cancel then s.setOwn { s.own with retryOn := true } else s
    { s with cycle := none, frameBuf := [] }.release .distress
  else
    let s := s.setOwn { s.own with noChannel := false,
                                   cycles := if k = .alert then satAdd 255 s.own.cycles 1 else s.own.cycles }
    let c : Cycle := { kind := k, channels := l, pos := 0, phase := .waitGrant, action := none }
    let s := { s with frameBuf := s.alertList k, cycle := some c }
    if s.holder = some .distress then s.cycleTune c 0 else s.claim .distress

/-- R168: a new cycle is called for. -/
def State.callCycle (s : State) (k : CycleKind) : State :=
  match s.cycle with
  | some c =>
    if c.phase = .sending then { s with cycle := some (c.propose (.cycle k)) } else s.beginCycle k
  | none => s.beginCycle k

/-- R166, R168, R172: a cycle ends. -/
def State.endCycle (s : State) (c : Cycle) : State :=
  let s := { s with cycle := none, frameBuf := [] }.release .distress
  match c.kind with
  | .alert => s
  | .cancel => s.setOwnState .none
  | .test =>
    if s.own.state = .testing then (s.setOwn { s.own with testWait := true }).setOwnState .none
    else if s.own.state = .arming then s.setOwn { s.own with testWait := true, armRet := some false }
    else s

/-- R168: the next channel is taken. -/
def State.nextChannel (s : State) (c : Cycle) : State :=
  match c.action with
  | some (.cycle k) => s.beginCycle k
  | some .end_ => s.endCycle c
  | none => if c.pos + 1 < c.channels.length then s.cycleTune c (c.pos + 1) else s.endCycle c

/-- R168: on GRANTED. -/
def State.cycleGranted (s : State) : State :=
  match s.cycle with
  | some c => if c.phase = .waitGrant then s.cycleTune c c.pos else s
  | none => s

/-- R168: on SETTLED. -/
def State.cycleSettled (s : State) : State :=
  match s.cycle with
  | some c => if c.phase = .settling then s.txRequest .distress else s
  | none => s

/-- R168: on KEYED. -/
def State.cycleKeyed (s : State) : State :=
  match s.cycle with
  | some c => if c.phase = .settling then { s with cycle := some { c with phase := .sending } }.offer .distress s.frameBuf else s
  | none => s

/-- R168: COMPLETED, KEY_FAULT, TUNE_REFUSED or BLOCKED. -/
def State.channelDone (s : State) : State :=
  match s.cycle with
  | some c => if c.phase = .waitGrant then s else s.nextChannel c
  | none => s

/-- R168, R170: an alert cycle in progress is told to stop early. -/
def State.stopAlertCycle (s : State) : State :=
  match s.cycle with
  | some c =>
    if c.kind = .alert then
      if c.phase = .sending then { s with cycle := some (c.propose .end_) } else s.endCycle c
    else s
  | none => s

/-! ## Events of the own alert -/

/-- R161: the next alert number. -/
def nextAlert (n : Nat) : Nat := if n = 99 then 1 else n + 1

/-- R161: a new alert. -/
def State.newAlert (s : State) (nature : Byte) : State :=
  let s := s.setOwn { s.own with number := nextAlert s.own.number, nature := nature, cycles := 0, noChannel := false,
                                 ackCoast := none, testWait := false, armRet := none }
  (s.setOwnState .active).callCycle .alert

/-- R164: a press. -/
def State.keyPress (s : State) : State :=
  match s.own.state with
  | .none => (s.setOwn { s.own with armRet := some false }).setOwnState .arming
  | .testing => (s.setOwn { s.own with armRet := some true }).setOwnState .arming
  | .arming | .active | .acknowledged | .cancelPending | .cancelling => s

/-- R164: a release. -/
def State.keyRelease (s : State) : State :=
  if s.own.state = .arming then
    (s.setOwn { s.own with armRet := none }).setOwnState (if s.own.armRet = some true then .testing else .none)
  else s

/-- R164: the key hold runs out. -/
def State.keyHoldExpiry (s : State) : State := if s.own.state = .arming then s.newAlert 0x55#8 else s

/-- R169: the alert is unanswered: ACTIVE, or CANCEL_PENDING with return state ACTIVE. -/
def OwnAlert.unanswered (o : OwnAlert) : Bool :=
  decide (o.state = .active) || (decide (o.state = .cancelPending) && decide (o.ret = some false))

/-- R169: the repeat interval runs out. -/
def State.repeatExpiry (s : State) : State :=
  if s.own.repeatOn then
    let s := s.setOwn { s.own with repeatOn := false }
    if s.own.unanswered then
      match s.cycle with
      | none => s.beginCycle .alert
      | some c => { s with cycle := some (c.propose (.cycle .alert)) }
    else s
  else s

/-- R171, R178: CANCEL_PENDING gives way to the return state. -/
def State.cancelReturn (s : State) : State :=
  let back := if s.own.ret = some true then AlertState.acknowledged else .active
  (s.setOwn { s.own with ret := none, requester := none }).setOwnState back

/-- R171: the cancel window runs out. -/
def State.cancelWindowExpiry (s : State) : State :=
  if s.own.state = .cancelPending then
    let s := s.cancelReturn
    if s.own.state = .active ∧ s.cycle = none then s.beginCycle .alert else s
  else s

/-- R172: the cancel retry runs out. -/
def State.cancelRetryExpiry (s : State) : State :=
  if s.own.retryOn then (s.setOwn { s.own with retryOn := false }).beginCycle .cancel else s

/-- R166: the test reply wait runs out. -/
def State.testReplyExpiry (s : State) : State :=
  if s.own.testWait then s.setOwn { s.own with testWait := false } else s

/-- R170: an acknowledgment. -/
def State.acknowledgeOwn (s : State) (coast : Text) : State :=
  if s.own.state = .active then
    ((s.setOwn { s.own with ackCoast := some coast, repeatOn := false }).setOwnState .acknowledged).stopAlertCycle
  else if s.own.state = .cancelPending ∧ s.own.ret = some false then
    ((s.setOwn { s.own with ret := some true, ackCoast := some coast, repeatOn := false }).raiseAll .ownAlert).stopAlertCycle
  else s

/-- R166: a test reply. -/
def State.testReply (s : State) (coast : Text) : State :=
  if s.own.state = .testing ∨ s.own.testWait = true then
    (s.setOwn { s.own with testCoast := some coast }).raiseAll .ownAlert
  else s

/-! ## Frames heard (R162, R174) -/

/-- R162: the fields of an A payload. -/
structure AlertFields where
  vessel : Text
  number : Nat
  nature : Byte
  pos    : Option Text
  fix    : Option Text
  deriving DecidableEq, Repr

/-- R162: what a payload of the alert family says. -/
inductive AlertMsg
  | alert (f : AlertFields)
  | test (f : AlertFields)
  | cancel (f : AlertFields)
  | ack (coast vessel : Text) (number : Nat)
  | relay (coast : Text) (f : AlertFields)
  | silence (coast : Text)
  | resume (coast : Text)
  deriving DecidableEq, Repr

/-- R162: the eight nature letters. -/
def natures : Text := chars ['F', 'S', 'G', 'C', 'L', 'D', 'P', 'U']

def isNature (c : Byte) : Bool := decide (c ∈ natures)

/-- R162: a coast code. -/
def isCoast (t : Text) : Bool := decide (t.length = 4) && t.all isUpper

def isVesselField (t : Text) : Bool := isVessel t || decide (t = unknownText)

/-- R162: two digits. -/
def twoDigits (t : Text) : Option Nat := if t.length = 2 then valueOf t else none

/-- R162: the form "DDMMTH/DDDMMTH" (log 36). -/
def isPositionForm (t : Text) : Bool :=
  match t with
  | [a, b, c, d, e, n, sl, f, g, h, i, j, k, w] =>
    [a, b, c, d, e, f, g, h, i, j, k].all isDigit && decide (sl = 0x2F#8) &&
    decide (n ∈ chars ['N', 'S']) && decide (w ∈ chars ['E', 'W'])
  | _ => false

/-- R162: the five fields of an A payload. -/
def alertFields (l : List Text) : Option AlertFields :=
  match l with
  | [v, n, [nat], pos, fix] =>
    match twoDigits n with
    | some number =>
      if isVesselField v = true ∧ isNature nat = true then
        if pos = unknownText ∧ fix = unknownText then some ⟨v, number, nat, none, none⟩
        else if isPositionForm pos = true ∧ fix.length = 4 ∧ fix.all isDigit = true then
          some ⟨v, number, nat, some pos, some fix⟩
        else none
      else none
    | none => none
  | _ => none

/-- R162: fields with an alert number from 01 to 99. -/
def numberedFields (l : List Text) : Option AlertFields :=
  (alertFields l).bind fun f => if 1 ≤ f.number then some f else none

/-- R162: fields of a test, number 00. -/
def testFields (l : List Text) : Option AlertFields :=
  (alertFields l).bind fun f => if f.number = 0 then some f else none

/-- R174: a payload parsed by its kind. -/
def parseAlert (kind : Option Symbol) (t : Text) : Option AlertMsg :=
  let l := splitSpaces t
  if kind = some (letterSym 'A') then (numberedFields l).map .alert
  else if kind = some (letterSym 'T') then (testFields l).map .test
  else if kind = some (letterSym 'X') then (numberedFields l).map .cancel
  else if kind = some (letterSym 'K') then
    match l with
    | [c, v, n] => if isCoast c = true ∧ isVesselField v = true then (twoDigits n).map (.ack c v) else none
    | _ => none
  else if kind = some (letterSym 'Y') then
    match l with
    | c :: rest => if isCoast c then (numberedFields rest).map (.relay c) else none
    | [] => none
  else if kind = some (letterSym 'S') then if isCoast t then some (.silence t) else none
  else if kind = some (letterSym 'G') then if isCoast t then some (.resume t) else none
  else none

/-! ## Heard list (R175) -/

/-- R175: what a frame brings to its entry. -/
structure HeardNews where
  vessel : Text
  number : Nat
  relay  : Option Text
  state  : HeardState
  nature : Option Byte
  pos    : Option Text
  fix    : Option Text
  deriving DecidableEq, Repr

/-- R175: a new entry. -/
def HeardNews.entry (n : HeardNews) (t : Stamp) : Heard :=
  { vessel := n.vessel, number := n.number, relay := n.relay, state := n.state, nature := n.nature, pos := n.pos,
    fix := n.fix, first := t, last := t, times := 1, acked := false }

/-- R175: the columns of the table for an entry that exists. -/
inductive HeardKind | a | y | x | k
  deriving DecidableEq, Repr

/-- R175: an entry updated. A position of "?" leaves position and fix time as they were. -/
def Heard.updated (h : Heard) (kind : HeardKind) (n : HeardNews) (t : Stamp) : Heard :=
  let h := { h with last := t, times := satAdd 255 h.times 1 }
  match kind with
  | .k => if h.state = .cancelled then h else { h with state := .acknowledged }
  | .a | .y | .x =>
    let h := { h with nature := n.nature, pos := n.pos.or h.pos, fix := n.fix.or h.fix }
    match kind with
    | .a => { h with relay := none }
    | .x => { h with state := .cancelled }
    | .y | .k => h

/-- Removes the first element the condition names. -/
def removeFirst {α : Type} (p : α → Bool) : List α → List α
  | [] => []
  | x :: rest => if p x then rest else x :: removeFirst p rest

/-- R175: a place is made in a full list, or none can be. -/
def makePlace (l : List Heard) : Option (List Heard) :=
  if l.length < Config.heardMax then some l
  else if l.any fun h => h.acked && decide (h.state ≠ .active) then
    some (removeFirst (fun h => h.acked && decide (h.state ≠ .active)) l)
  else if l.any (·.acked) then some (removeFirst (·.acked) l)
  else none

/-- R175: a frame about another vessel is taken by the heard list. -/
def State.hear (s : State) (kind : HeardKind) (n : HeardNews) (t : Stamp) : State :=
  match s.heard.find? fun h => decide (h.vessel = n.vessel) && decide (h.number = n.number) with
  | some h =>
    let h' := h.updated kind n t
    let s := { s with heard := s.heard.map fun x => if x = h then h' else x }
    if h'.state = h.state then s else s.raiseAll .distressHeard
  | none =>
    let s := match makePlace s.heard with
      | some l => { s with heard := l ++ [n.entry t] }
      | none => { s with heardCounts := { s.heardCounts with overflow := satAdd 65535 s.heardCounts.overflow 1 } }
    (s.raiseAll .distressHeard).alarmEvent .distressHeard

/-- R175: an A, X or Y frame. -/
def AlertFields.news (f : AlertFields) (relay : Option Text) (st : HeardState) : HeardNews :=
  { vessel := f.vessel, number := f.number, relay := relay, state := st, nature := some f.nature, pos := f.pos, fix := f.fix }

/-! ## Silence (R177) -/

/-- R177: a GOOD S frame. -/
def State.silenceOrder (s : State) (coast : Text) : State :=
  ({ s with silence := { running := true, coast := some coast, since := s.time.elapsed } }.raiseAll .silence).post .gateClosed

/-- R177: a silence ends. -/
def State.silenceEnd (s : State) : State :=
  ({ s with silence := { s.silence with running := false } }.raiseAll .silence).post .linkTest

/-- R177: a GOOD G frame. -/
def State.silenceResume (s : State) (coast : Text) : State :=
  if s.silence.running = true ∧ s.silence.coast = some coast then s.silenceEnd else s

/-- R177: a silence runs, and its period can be running out now: an expiry behind an S frame that has restarted the
period belongs to the replaced interval (log 51). -/
def State.silenceRanOut (s : State) : Bool := s.silence.running && s.ranOut s.silence.since Config.silenceSec

/-- R177: the silence period runs out. -/
def State.silenceExpiry (s : State) : State := if s.silenceRanOut then s.silenceEnd else s

/-! ## Every frame the watch path hands over (R174) -/

def State.testHeard (s : State) : State :=
  { s with heardCounts := { s.heardCounts with tests := satAdd 65535 s.heardCounts.tests 1 } }

def State.malformed (s : State) : State :=
  { s with heardCounts := { s.heardCounts with malformed := satAdd 65535 s.heardCounts.malformed 1 } }

/-- R174: a GOOD record, parsed. A T frame naming the own code is discarded uncounted: the model's choice, log 45. -/
def State.alertMsg (s : State) (m : AlertMsg) (t : Stamp) : State :=
  match m with
  | .alert f => if f.vessel = s.ownCode then s else s.hear .a (f.news none .active) t
  | .cancel f => if f.vessel = s.ownCode then s else s.hear .x (f.news none .cancelled) t
  | .relay c f => if f.vessel = s.ownCode then s else s.hear .y (f.news (some c) .active) t
  | .test f => if f.vessel = s.ownCode then s else s.testHeard
  | .ack c v n =>
    if v = s.ownCode then
      if n = 0 then s.testReply c else if n = s.own.number then s.acknowledgeOwn c else s
    else if n = 0 then s.testHeard
    else s.hear .k ⟨v, n, some c, .acknowledged, none, none, none⟩ t
  | .silence c => s.silenceOrder c
  | .resume c => s.silenceResume c

/-- R174: a frame record of the watch path. -/
def State.distressFrame (s : State) (r : FrameRec) : State :=
  if r.verdict = .good then
    match parseAlert r.kind r.text with
    | some m => s.alertMsg m r.received
    | none => s.malformed
  else s

end Sys2Proof.Machine
end

