-- ==== Sys2Proof/Machine/Signals.lean ====
section
/-! DEFINITION. How the blocks take the events they hand one another (R49 and the rules of each block),
and how a step works them off (log 8). An event to a holder is taken only while it still holds the grant. -/
namespace Sys2Proof.Machine

/-- R52, R49: GRANTED. -/
def State.onGranted (s : State) (c : Claimant) : State :=
  match c with
  | .distress => s.cycleGranted
  | .bulletinMandatory | .bulletinOrdinary => s.bullGranted c
  | .link => s.linkGranted
  | .tune => s.tuneGranted
  | .scan => s.scanGranted

/-- R54: SETTLED. -/
def State.onSettled (s : State) (c : Claimant) : State :=
  match c with
  | .distress => s.cycleSettled
  | .bulletinMandatory | .bulletinOrdinary => s.bullSettled
  | .link => s.linkSettled
  | .tune => s.txRequest .tune
  | .scan => s

/-- R54: TUNE_REFUSED. The scanner and TUNE tune only entries they have just found valid. -/
def State.onTuneRefused (s : State) (c : Claimant) : State :=
  match c with
  | .distress => s.channelDone
  | .bulletinMandatory | .bulletinOrdinary => s.bullTuneRefused
  | .link => s.linkTuneRefused
  | .tune => s.release .tune
  | .scan => s

/-- R55: BLOCKED. -/
def State.onBlocked (s : State) (c : Claimant) : State :=
  match c with
  | .distress => s.channelDone
  | .link => s.linkAbandon
  | .tune => s.release .tune
  | .bulletinMandatory | .bulletinOrdinary | .scan => s

/-- R55: KEYED. The link has offered its burst with its request; TUNE sends no symbols (R67). -/
def State.onKeyed (s : State) (c : Claimant) : State :=
  match c with
  | .distress => s.cycleKeyed
  | .bulletinMandatory | .bulletinOrdinary | .link | .tune | .scan => s

/-- R57: COMPLETED. -/
def State.onCompleted (s : State) (c : Claimant) : State :=
  match c with
  | .distress => s.channelDone
  | .link => s.linkCompleted
  | .bulletinMandatory | .bulletinOrdinary | .tune | .scan => s

/-- R57, R61: KEY_FAULT. -/
def State.onKeyFault (s : State) (c : Claimant) : State :=
  match c with
  | .distress => s.channelDone
  | .link => s.linkCut
  | .tune => s.release .tune
  | .bulletinMandatory | .bulletinOrdinary | .scan => s

/-- R58: a release request. DISTRESS is never sent one. -/
def State.onReleaseRequest (s : State) (c : Claimant) : State :=
  match c with
  | .bulletinMandatory | .bulletinOrdinary => s.bullInterrupted
  | .link => s.linkAbandon
  | .tune => s.release .tune
  | .scan => s.scanRelease
  | .distress => s

/-- R59: REVOKED. -/
def State.onRevoked (s : State) (c : Claimant) : State :=
  match c with
  | .bulletinMandatory | .bulletinOrdinary => s.bullInterrupted
  | .link => s.linkCut
  | .scan => { s with scanner := s.scanner.stopped }
  | .tune | .distress => s

/-- R12, R46: a frame record; on the watch path a GOOD one ends a watch hold after it is delivered. -/
def State.onFrame (s : State) (p : Path) (h : Option Claimant) (r : FrameRec) : State :=
  match p with
  | .watch =>
    let s := s.distressFrame r
    if r.verdict = .good ∧ s.watch.state = .held then s.watchMoveOn else s
  | .transceiver =>
    match h with
    | some .link => s.linkFrameIn r
    | some .bulletinMandatory | some .bulletinOrdinary => s.bullFrame r
    | some .distress | some .tune | some .scan | none => s

/-- R6, R43, R46, R132: phasing heard. -/
def State.onPhasing (s : State) (p : Path) (h : Option Claimant) : State :=
  match p with
  | .watch => if s.watch.state = .dwelling then { s with watch := { s.watch with state := .held } } else s
  | .transceiver =>
    match h with
    | some .link => s.linkPhasing
    | some .scan => s.scanPhasing
    | some .bulletinMandatory | some .bulletinOrdinary | some .distress | some .tune | none => s

/-- R7, R132: turn received. -/
def State.onTurn (s : State) (p : Path) (h : Option Claimant) : State :=
  match p, h with
  | .transceiver, some .link => s.linkTurn
  | _, _ => s

/-- R7, R155: clear received. -/
def State.onClear (s : State) (p : Path) (h : Option Claimant) : State :=
  match p, h with
  | .transceiver, some .bulletinMandatory | .transceiver, some .bulletinOrdinary => s.closePart 0
  | _, _ => s

/-- R39, R155: loss of lock. -/
def State.onLockLost (s : State) (h : Option Claimant) : State :=
  match h with
  | some .bulletinMandatory | some .bulletinOrdinary => s.closePart 32
  | some .link | some .distress | some .tune | some .scan | none => s

/-- R58: a release request is outstanding for the claimant. -/
def State.asked (s : State) (c : Claimant) : Bool :=
  decide (s.holder = some c) && decide (s.arb.state = .releasing)

/-- One hand-off is taken. -/
def State.handle (s : State) (g : Signal) : State :=
  match g with
  | .granted c => if s.holder = some c then s.onGranted c else s
  | .settled c => if s.holder = some c then s.onSettled c else s
  | .tuneRefused c => if s.holder = some c then s.onTuneRefused c else s
  | .blocked c => if s.holder = some c then s.onBlocked c else s
  | .keyed c => if s.holder = some c then s.onKeyed c else s
  | .completed c _ => if s.holder = some c then s.onCompleted c else s
  | .stopped _ _ => s
  | .keyFault c => if s.holder = some c then s.onKeyFault c else s
  | .releaseRequest c => if s.asked c then s.onReleaseRequest c else s
  | .revoked c => s.onRevoked c
  | .frame p h r => if p = .watch ∨ s.holder = h then s.onFrame p h r else s
  | .phasing p h => if p = .watch ∨ s.holder = h then s.onPhasing p h else s
  | .turn p h => if p = .watch ∨ s.holder = h then s.onTurn p h else s
  | .clear p h => if p = .watch ∨ s.holder = h then s.onClear p h else s
  | .lockLost h => if s.holder = h then s.onLockLost h else s
  | .scanPhasingGone => s.scanPhasingGone
  | .scannerCheck => s.scanCheck
  | .gateClosed => s.linkAbandon.tuneGateClosed
  | .linkTest => s.linkTest

/-- The hand-offs are worked off, first in, first out. None outlives its step; a cascade longer than the
bound would lose its rest, and no rule of the part makes one (log 8). -/
def State.drain : Nat → State → State
  | 0, s => { s with signals := [] }
  | fuel + 1, s =>
    match s.signals with
    | [] => s
    | g :: rest => State.drain fuel ({ s with signals := rest }.handle g)

/-- What a step leaves once the blocks have taken what it handed them. -/
def State.settle (s : State) : State := s.drain Config.cascade

end Sys2Proof.Machine
end

