-- ==== Sys2Proof/Machine/Clock.lean ====
section
/-! DEFINITION. Steps of the timebase and of the intervals of the retained domain (R20 to R24, R35, R78,
R112, R116, R177). -/
namespace Sys2Proof.Machine

/-! ## Time state (R24) -/

/-- R24: a change of time state raises TIME and is handed to the blocks that depend on it. -/
def State.setTimeState (s : State) (t : TimeState) : State :=
  let before := s.time.state
  if before = t then s
  else
    let s := { s with time := { s.time with state := t } }.raiseAll .time
    let s := if before = .locked then s.post .gateClosed else s
    if t = .locked then s.post .linkTest else s

/-- R24: qualification. -/
def State.qualified (s : State) : State :=
  match s.time.state with
  | .holdover => s.setTimeState .locked
  | .unset | .locked => s

/-- R24: disqualification. -/
def State.disqualified (s : State) : State :=
  match s.time.state with
  | .locked => s.setTimeState .holdover
  | .unset | .holdover => s

/-! ## Reference check (R23) -/

/-- R23: the second is good: cycles throughout it, and within 2 ppm of 1,000,000. -/
def goodSecond (cycles : Nat) (present : Bool) : Bool :=
  present && decide (999998 ≤ cycles) && decide (cycles ≤ 1000002)

/-- R23: the counts after a second, qualified as before. -/
def Timebase.judged (t : Timebase) (good : Bool) : Timebase :=
  if good then { t with good := min 64 (t.good + 1), bad := 0 } else { t with good := 0, bad := min 3 (t.bad + 1) }

/-- R23: a second is judged. -/
def State.judgeSecond (s : State) (good : Bool) : State :=
  let s := { s with time := s.time.judged good }
  if s.time.qualified then
    if s.time.bad = 3 then { s with time := { s.time with qualified := false } }.disqualified else s
  else if s.time.good = 64 then { s with time := { s.time with qualified := true } }.qualified
  else s

/-! ## The clock (R20 to R22) -/

/-- R22: the bulletin engine takes a clock minute it has not taken yet. -/
def State.takeMinute (s : State) : State :=
  match s.time.minute with
  | some m => { s with time := { s.time with minute := none } }.bullMinute m
  | none => s

/-- R21: the elapsed-seconds count one second on; past its largest value it is a free value (log 11). -/
def State.elapsedOn (s : State) : State :=
  if s.time.elapsed = 0xFFFFFFFF#32 then
    { s with time := { s.time with elapsed := Config.elapsedAfterMax s.freeCount } }.drawn
  else { s with time := { s.time with elapsed := s.time.elapsed + 1 } }

/-- R20: the clock wraps past 2099 (log 37). The bulletin engine takes the change before the closing of the gate is handed
on: the model's choice, log 55. A stopped part has no engine to hand the change to. -/
def State.wrapped (s : State) : State :=
  if s.running then (s.setTimeState .unset).bullUnset else { s with time := { s.time with state := .unset } }

/-- R20 to R22: one elapsed second. -/
def State.tick (s : State) : State :=
  let s := (if s.running then s.takeMinute else s).elapsedOn
  let next := secondAfter s.time.reading
  let minute := if s.running = true ∧ next.1.second = 0 then some next.1 else none
  let s := { s with time := { s.time with reading := next.1, minute := minute } }
  if next.2 then s.wrapped else s

/-! ## Expiries of the retained domain (R21) -/

/-- The interval whose expiry this is runs. The decay and the sweep always do. -/
def State.expiryRuns (s : State) : HeldExpiry → Bool
  | .scoreDecay => true
  | .expirySweep => true
  | .retryAfter n => (s.outbound n).elim false fun o => o.retry.isSome
  | .checkTimer => s.queue.timer.isSome
  | .silencePeriod => s.silenceRanOut

/-- R35, R78, R112, R116, R177: the owner takes the expiry. -/
def State.takeExpiry (s : State) (e : HeldExpiry) : State :=
  match e with
  | .scoreDecay => { s with channels := s.channels.map Channel.decayed }
  | .expirySweep => s.expirySweep
  | .retryAfter n =>
    if s.expiryRuns e then (s.modOutbound n fun o => { o with retry := none }).trafficWaiting else s
  | .checkTimer => if s.expiryRuns e then (s.setTimer none).checkTest false else s
  | .silencePeriod => s.silenceExpiry

/-- R21: an expiry of the retained domain: taken while the part runs, held while it is stopped. -/
def State.retainedExpiry (s : State) (e : HeldExpiry) : State :=
  if s.running then (s.takeExpiry e).settle
  else if s.retained = true ∧ s.expiryRuns e = true then
    { s with supply := { s.supply with held := s.supply.held ++ [e] } }
  else s

/-! ## Steps -/

/-- R20. A retained domain without power counts nothing (R16). -/
def execClockSecond (s : State) : Host.Outcome State Fault Refusal :=
  .next (if s.retained then s.tick.settle else s)

/-- R23. -/
def execReferenceCheck (cycles : Nat) (present : Bool) (s : State) : Host.Outcome State Fault Refusal :=
  .next (if s.running then (s.judgeSecond (goodSecond cycles present)).settle else s)

/-- R148. -/
def execClockMinute (s : State) : Host.Outcome State Fault Refusal :=
  .next (if s.running then s.takeMinute.settle else s)

/-- R35. -/
def execScoreDecay (s : State) : Host.Outcome State Fault Refusal := .next (s.retainedExpiry .scoreDecay)

/-- R78. -/
def execExpirySweep (s : State) : Host.Outcome State Fault Refusal := .next (s.retainedExpiry .expirySweep)

/-- R112. -/
def execRetryAfterExpiry (slot : Nat) (s : State) : Host.Outcome State Fault Refusal :=
  .next (s.retainedExpiry (.retryAfter slot))

/-- R116. -/
def execCheckTimerExpiry (s : State) : Host.Outcome State Fault Refusal := .next (s.retainedExpiry .checkTimer)

/-- R177. -/
def execSilencePeriodExpiry (s : State) : Host.Outcome State Fault Refusal := .next (s.retainedExpiry .silencePeriod)

end Sys2Proof.Machine
end

