-- ==== Sys2Proof/Machine/Operands.lean ====
section
/-! DEFINITION. Operand forms: the byte forms of R181, command frames and their tags (R180, R182), response
frames (R183). -/
namespace Sys2Proof.Machine

/-! ## Status codes (R180) -/

/-- R180. -/
inductive Status
  | ok | badFrame | badTag | badParam | role | noRecord | noHold | holdLost | inFlight | inUse | storeFull
  | slotsFull | queueFull | logFull | speciesFull | wrongState | openHauls | noChannel
  deriving DecidableEq, Repr

/-- R180: the code of a status; 16 is not used. -/
def Status.code : Status → Nat
  | .ok => 0
  | .badFrame => 1
  | .badTag => 2
  | .badParam => 3
  | .role => 4
  | .noRecord => 5
  | .noHold => 6
  | .holdLost => 7
  | .inFlight => 8
  | .inUse => 9
  | .storeFull => 10
  | .slotsFull => 11
  | .queueFull => 12
  | .logFull => 13
  | .speciesFull => 14
  | .wrongState => 15
  | .openHauls => 17
  | .noChannel => 18

/-! ## Fields as bytes (R181) -/

def u8 (n : Nat) : List Byte := [byte n]

def u16 (n : Nat) : List Byte := [byte (n / 256), byte n]

def u32 (n : Nat) : List Byte := [byte (n / 16777216), byte (n / 65536), byte (n / 256), byte n]

/-- A signed number in one byte. -/
def i8 (i : Int) : List Byte := [BitVec.ofInt 8 i]

/-- A signed number in four bytes. -/
def i32 (i : Int) : List Byte := u32 (BitVec.ofInt 32 i).toNat

def emitFlag (b : Bool) : List Byte := [if b then 1 else 0]

def emitBytes (l : List Byte) : List Byte := byte l.length :: l

def emitText (t : Text) : List Byte := emitBytes t

def emitReading (r : Reading) : List Byte :=
  u16 r.year ++ u8 r.month ++ u8 r.day ++ u8 r.hour ++ u8 r.minute ++ u8 r.second

def TimeState.code : TimeState → Nat
  | .unset => 0
  | .holdover => 1
  | .locked => 2

def emitStamp (t : Stamp) : List Byte := emitReading t.reading ++ u8 t.state.code

/-- R181: a value that may be absent. -/
def emitOpt {α : Type} (f : α → List Byte) : Option α → List Byte
  | none => [0]
  | some x => 1 :: f x

/-- R181: a list of members already in bytes. -/
def emitList (l : List (List Byte)) : List Byte := byte l.length :: l.flatten

/-- R181: how many members of a list fit in a number of bytes, from the first. -/
def fitting : Nat → List (List Byte) → List (List Byte)
  | _, [] => []
  | room, x :: rest => if x.length ≤ room then x :: fitting (room - x.length) rest else []

/-- R181: a list given as "up to" a number, cut to what the response leaves it beside `fixed` other bytes. -/
def cutTo (fixed : Nat) (l : List (List Byte)) : List (List Byte) := fitting (Config.maxData - fixed - 1) l

def emitNotices (m : BitVec 16) : List Byte := u16 m.toNat

def emitGiven (p : GivenPosition) : List Byte := i32 p.lat ++ i32 p.lon ++ emitOpt emitReading p.fix

def emitForm : PositionForm → List Byte
  | .given p => 0 :: emitGiven p
  | .current => [1]
  | .absent => [2]

def emitPair (p : Text × Nat) : List Byte := emitText p.1 ++ u32 p.2

/-- R89: a haul content as parameters. -/
def emitContent (c : HaulContent) : List Byte :=
  emitOpt emitReading c.first ++ emitOpt emitReading c.last ++ emitForm c.pos ++ [c.gear] ++
  emitList (c.species.map emitPair)

/-! ## Fields from bytes (R181) -/

def readU8 : List Byte → Option (Nat × List Byte)
  | b :: r => some (b.toNat, r)
  | [] => none

def readByte : List Byte → Option (Byte × List Byte)
  | b :: r => some (b, r)
  | [] => none

def readU16 : List Byte → Option (Nat × List Byte)
  | a :: b :: r => some (a.toNat * 256 + b.toNat, r)
  | _ => none

def readU32 : List Byte → Option (Nat × List Byte)
  | a :: b :: c :: d :: r => some (a.toNat * 16777216 + b.toNat * 65536 + c.toNat * 256 + d.toNat, r)
  | _ => none

def readI32 (l : List Byte) : Option (Int × List Byte) :=
  (readU32 l).map fun p => ((BitVec.ofNat 32 p.1).toInt, p.2)

/-- R181: a flag byte is 0 or 1; any other is malformed (log 18). -/
def readFlag : List Byte → Option (Bool × List Byte)
  | b :: r => if b = 0 then some (false, r) else if b = 1 then some (true, r) else none
  | [] => none

def readBytes : List Byte → Option (List Byte × List Byte)
  | n :: r => if n.toNat ≤ r.length then some (r.take n.toNat, r.drop n.toNat) else none
  | [] => none

def readReading : List Byte → Option (Reading × List Byte)
  | a :: b :: mo :: d :: h :: mi :: s :: r =>
    some (⟨a.toNat * 256 + b.toNat, mo.toNat, d.toNat, h.toNat, mi.toNat, s.toNat⟩, r)
  | _ => none

def readOpt {α : Type} (f : List Byte → Option (α × List Byte)) (l : List Byte) : Option (Option α × List Byte) := do
  let (present, l) ← readFlag l
  if present then
    let (x, l) ← f l
    pure (some x, l)
  else pure (none, l)

def readGiven (l : List Byte) : Option (GivenPosition × List Byte) := do
  let (lat, l) ← readI32 l
  let (lon, l) ← readI32 l
  let (fix, l) ← readOpt readReading l
  pure (⟨lat, lon, fix⟩, l)

def readForm : List Byte → Option (PositionForm × List Byte)
  | b :: r =>
    if b = 0 then (readGiven r).map fun p => (.given p.1, p.2)
    else if b = 1 then some (.current, r)
    else if b = 2 then some (.absent, r)
    else none
  | [] => none

/-- A number of members, one after another. -/
def readMany {α : Type} (f : List Byte → Option (α × List Byte)) : Nat → List Byte → Option (List α × List Byte)
  | 0, l => some ([], l)
  | n + 1, l => do
    let (x, l) ← f l
    let (xs, l) ← readMany f n l
    pure (x :: xs, l)

def readPair (l : List Byte) : Option ((Text × Nat) × List Byte) := do
  let (c, l) ← readBytes l
  let (w, l) ← readU32 l
  pure ((c, w), l)

def readContent (l : List Byte) : Option (HaulContent × List Byte) := do
  let (first, l) ← readOpt readReading l
  let (last, l) ← readOpt readReading l
  let (pos, l) ← readForm l
  let (gear, l) ← readByte l
  let (n, l) ← readU8 l
  let (species, l) ← readMany readPair n l
  pure (⟨first, last, pos, gear, species⟩, l)

/-! ## Tags (R182) -/

/-- The part's commands. -/
inductive Tag
  | tset | tget | posn | pget | ship | chrd | chwr | tune | fack | fclr | dopn | dapp
  | ddis | mred | list | mrkr | mdel | hadd | hred | hamd | hdel | trip | totl | crep
  | dque | qexp | qwdr | qlst | skrd | skwr | dalr | dtst | dcan | dcnf | dcls | hack
  | hlst | note | mask | stat | prst | asil
  deriving DecidableEq, Repr

def Tag.all : List Tag :=
  [.tset, .tget, .posn, .pget, .ship, .chrd, .chwr, .tune, .fack, .fclr, .dopn] ++
  [.dapp, .ddis, .mred, .list, .mrkr, .mdel, .hadd, .hred, .hamd, .hdel, .trip] ++
  [.totl, .crep, .dque, .qexp, .qwdr, .qlst, .skrd, .skwr, .dalr, .dtst, .dcan] ++
  [.dcnf, .dcls, .hack, .hlst, .note, .mask, .stat, .prst, .asil]

/-- R180: the tag in ASCII capitals. -/
def Tag.name : Tag → Text
  | .tset => chars ['T', 'S', 'E', 'T']
  | .tget => chars ['T', 'G', 'E', 'T']
  | .posn => chars ['P', 'O', 'S', 'N']
  | .pget => chars ['P', 'G', 'E', 'T']
  | .ship => chars ['S', 'H', 'I', 'P']
  | .chrd => chars ['C', 'H', 'R', 'D']
  | .chwr => chars ['C', 'H', 'W', 'R']
  | .tune => chars ['T', 'U', 'N', 'E']
  | .fack => chars ['F', 'A', 'C', 'K']
  | .fclr => chars ['F', 'C', 'L', 'R']
  | .dopn => chars ['D', 'O', 'P', 'N']
  | .dapp => chars ['D', 'A', 'P', 'P']
  | .ddis => chars ['D', 'D', 'I', 'S']
  | .mred => chars ['M', 'R', 'E', 'D']
  | .list => chars ['L', 'I', 'S', 'T']
  | .mrkr => chars ['M', 'R', 'K', 'R']
  | .mdel => chars ['M', 'D', 'E', 'L']
  | .hadd => chars ['H', 'A', 'D', 'D']
  | .hred => chars ['H', 'R', 'E', 'D']
  | .hamd => chars ['H', 'A', 'M', 'D']
  | .hdel => chars ['H', 'D', 'E', 'L']
  | .trip => chars ['T', 'R', 'I', 'P']
  | .totl => chars ['T', 'O', 'T', 'L']
  | .crep => chars ['C', 'R', 'E', 'P']
  | .dque => chars ['D', 'Q', 'U', 'E']
  | .qexp => chars ['Q', 'E', 'X', 'P']
  | .qwdr => chars ['Q', 'W', 'D', 'R']
  | .qlst => chars ['Q', 'L', 'S', 'T']
  | .skrd => chars ['S', 'K', 'R', 'D']
  | .skwr => chars ['S', 'K', 'W', 'R']
  | .dalr => chars ['D', 'A', 'L', 'R']
  | .dtst => chars ['D', 'T', 'S', 'T']
  | .dcan => chars ['D', 'C', 'A', 'N']
  | .dcnf => chars ['D', 'C', 'N', 'F']
  | .dcls => chars ['D', 'C', 'L', 'S']
  | .hack => chars ['H', 'A', 'C', 'K']
  | .hlst => chars ['H', 'L', 'S', 'T']
  | .note => chars ['N', 'O', 'T', 'E']
  | .mask => chars ['M', 'A', 'S', 'K']
  | .stat => chars ['S', 'T', 'A', 'T']
  | .prst => chars ['P', 'R', 'S', 'T']
  | .asil => chars ['A', 'S', 'I', 'L']

/-- R182: the roles a tag is permitted to; QWDR's own rule tests role and origin. -/
def Tag.permits : Tag → Role → Bool
  | .tset | .ship | .fack | .skwr | .dtst | .dcnf | .hack | .asil => isBridgeRadio
  | .tget | .pget | .chrd | .mred | .list | .hred | .totl | .qwdr | .qlst => isAny
  | .skrd | .hlst | .note | .mask | .stat | .prst => isAny
  | .posn | .dalr | .dcan | .dcls => isBridge
  | .chwr | .tune | .fclr | .qexp => isRadio
  | .dopn | .dapp | .ddis | .mrkr | .mdel | .dque => isCrew
  | .hadd | .hamd | .trip => isCatchBridge
  | .hdel => isCatch
  | .crep => isCatchRadio

def Tag.named (t : Text) : Option Tag := Tag.all.find? fun x => decide (x.name = t)

/-! ## Commands as frames (R180) -/

/-- The port, the tag and the parameter bytes of a command; none for a step that is no command. -/
def Instr.frame : Instr → Option (Port × Tag × List Byte)
  | .tset p r => some (p, .tset, emitReading r)
  | .tget p => some (p, .tget, [])
  | .posn p none => some (p, .posn, [1])
  | .posn p (some g) => some (p, .posn, 0 :: emitGiven g)
  | .pget p => some (p, .pget, [])
  | .ship p v h n => some (p, .ship, emitText v ++ emitText h ++ u8 n)
  | .chrd p i hold => some (p, .chrd, u8 i ++ emitFlag hold)
  | .chwr p i f => some (p, .chwr, u8 i ++ emitFlag f.valid ++ u8 f.role ++ u32 f.freq ++ emitText f.station ++ u8 f.floor)
  | .tune p i d => some (p, .tune, u8 i ++ u8 d)
  | .fack p => some (p, .fack, [])
  | .fclr p => some (p, .fclr, [])
  | .dopn p c d => some (p, .dopn, u8 c ++ emitText d)
  | .dapp p n t => some (p, .dapp, u8 n ++ emitText t)
  | .ddis p n => some (p, .ddis, u8 n)
  | .mred p n o c part => some (p, .mred, u8 n ++ u16 o ++ u8 c ++ emitOpt u8 part)
  | .list p n => some (p, .list, u8 n)
  | .mrkr p n => some (p, .mrkr, u8 n)
  | .mdel p n => some (p, .mdel, u8 n)
  | .hadd p c => some (p, .hadd, emitContent c)
  | .hred p h m hold => some (p, .hred, u16 h ++ u8 m ++ emitFlag hold)
  | .hamd p h c => some (p, .hamd, u16 h ++ emitContent c)
  | .hdel p h => some (p, .hdel, u16 h)
  | .trip p n => some (p, .trip, u16 n)
  | .totl p n => some (p, .totl, u8 n)
  | .crep p d => some (p, .crep, emitText d)
  | .dque p n => some (p, .dque, u8 n)
  | .qexp p n => some (p, .qexp, u8 n)
  | .qwdr p n => some (p, .qwdr, u8 n)
  | .qlst p n => some (p, .qlst, u8 n)
  | .skrd p i hold => some (p, .skrd, u8 i ++ emitFlag hold)
  | .skwr p i f => some (p, .skwr, u8 i ++ emitFlag f.enabled ++ u8 f.channel ++ u16 f.start ++ u8 f.duration ++ u8 f.every ++ emitFlag f.mandatory ++
      emitBytes f.subjects ++ emitBytes (f.areas.map byte))
  | .dalr p c => some (p, .dalr, [c])
  | .dtst p => some (p, .dtst, [])
  | .dcan p => some (p, .dcan, [])
  | .dcnf p => some (p, .dcnf, [])
  | .dcls p => some (p, .dcls, [])
  | .hack p v n => some (p, .hack, emitText v ++ u8 n)
  | .hlst p n => some (p, .hlst, u8 n)
  | .note p => some (p, .note, [])
  | .mask p m => some (p, .mask, u16 m.toNat)
  | .stat p n => some (p, .stat, u8 n)
  | .prst p => some (p, .prst, [])
  | .asil p => some (p, .asil, [])
  | _ => none

/-- The bytes of length through parameters. -/
def checkedBytes (t : Tag) (params : List Byte) : List Byte := byte (4 + params.length) :: t.name ++ params

/-- R180: the check over bytes, most significant byte first. -/
def checkBytes (l : List Byte) : List Byte := u16 (crc (l.map BitVec.toNat)).toNat

/-- R180: a command frame. -/
def commandFrame (t : Tag) (params : List Byte) : List Byte :=
  0xA5#8 :: checkedBytes t params ++ checkBytes (checkedBytes t params)

/-- What is left when the last parameter has been read must be nothing. -/
def whole {α : Type} (r : Option (α × List Byte)) : Option α :=
  match r with
  | some (x, []) => some x
  | some (_, _ :: _) => none
  | none => none

/-- A command without parameters. -/
def bare (i : Instr) (l : List Byte) : Option Instr := if l = [] then some i else none

/-- R181: a command's parameters; none when the bytes do not have its form (log 18). -/
def parseParams (p : Port) (t : Tag) (l : List Byte) : Option Instr :=
  match t with
  | .tset => whole (readReading l) |>.map (.tset p)
  | .tget => bare (.tget p) l
  | .posn => do
    let (clear, l) ← readFlag l
    if clear then bare (.posn p none) l else whole (readGiven l) |>.map fun g => .posn p (some g)
  | .pget => bare (.pget p) l
  | .ship => do
    let (v, l) ← readBytes l
    let (h, l) ← readBytes l
    whole (readU8 l) |>.map (.ship p v h)
  | .chrd => do
    let (i, l) ← readU8 l
    whole (readFlag l) |>.map (.chrd p i)
  | .chwr => do
    let (i, l) ← readU8 l
    let (valid, l) ← readFlag l
    let (role, l) ← readU8 l
    let (freq, l) ← readU32 l
    let (station, l) ← readBytes l
    whole (readU8 l) |>.map fun floor => .chwr p i ⟨valid, role, freq, station, floor⟩
  | .tune => do
    let (i, l) ← readU8 l
    whole (readU8 l) |>.map (.tune p i)
  | .fack => bare (.fack p) l
  | .fclr => bare (.fclr p) l
  | .dopn => do
    let (c, l) ← readU8 l
    whole (readBytes l) |>.map (.dopn p c)
  | .dapp => do
    let (n, l) ← readU8 l
    whole (readBytes l) |>.map (.dapp p n)
  | .ddis => whole (readU8 l) |>.map (.ddis p)
  | .mred => do
    let (n, l) ← readU8 l
    let (o, l) ← readU16 l
    let (c, l) ← readU8 l
    whole (readOpt readU8 l) |>.map (.mred p n o c)
  | .list => whole (readU8 l) |>.map (.list p)
  | .mrkr => whole (readU8 l) |>.map (.mrkr p)
  | .mdel => whole (readU8 l) |>.map (.mdel p)
  | .hadd => whole (readContent l) |>.map (.hadd p)
  | .hred => do
    let (h, l) ← readU16 l
    let (m, l) ← readU8 l
    whole (readFlag l) |>.map (.hred p h m)
  | .hamd => do
    let (h, l) ← readU16 l
    whole (readContent l) |>.map (.hamd p h)
  | .hdel => whole (readU16 l) |>.map (.hdel p)
  | .trip => whole (readU16 l) |>.map (.trip p)
  | .totl => whole (readU8 l) |>.map (.totl p)
  | .crep => whole (readBytes l) |>.map (.crep p)
  | .dque => whole (readU8 l) |>.map (.dque p)
  | .qexp => whole (readU8 l) |>.map (.qexp p)
  | .qwdr => whole (readU8 l) |>.map (.qwdr p)
  | .qlst => whole (readU8 l) |>.map (.qlst p)
  | .skrd => do
    let (i, l) ← readU8 l
    whole (readFlag l) |>.map (.skrd p i)
  | .skwr => do
    let (i, l) ← readU8 l
    let (enabled, l) ← readFlag l
    let (channel, l) ← readU8 l
    let (start, l) ← readU16 l
    let (duration, l) ← readU8 l
    let (every, l) ← readU8 l
    let (mandatory, l) ← readFlag l
    let (subjects, l) ← readBytes l
    whole (readBytes l) |>.map fun areas =>
      .skwr p i ⟨enabled, channel, start, duration, every, mandatory, subjects, areas.map BitVec.toNat⟩
  | .dalr => whole (readByte l) |>.map (.dalr p)
  | .dtst => bare (.dtst p) l
  | .dcan => bare (.dcan p) l
  | .dcnf => bare (.dcnf p) l
  | .dcls => bare (.dcls p) l
  | .hack => do
    let (v, l) ← readBytes l
    whole (readU8 l) |>.map (.hack p v)
  | .hlst => whole (readU8 l) |>.map (.hlst p)
  | .note => bare (.note p) l
  | .mask => whole (readU16 l) |>.map fun m => .mask p (BitVec.ofNat 16 m)
  | .stat => whole (readU8 l) |>.map (.stat p)
  | .prst => bare (.prst p) l
  | .asil => bare (.asil p) l

/-- R182: what the port makes of a transfer. `excess` bytes came after the last check byte. -/
inductive Transfer
  | badFrame (excess : Bool)
  | badTag (excess : Bool)
  | command (t : Tag) (params : List Byte) (excess : Bool)
  deriving DecidableEq, Repr

/-- R182: a transfer judged. A frame whose sync and length are good ends at its last check byte; any other
transfer ends with the release of SEL. -/
def judgeTransfer (l : List Byte) : Transfer :=
  match l with
  | sync :: len :: rest =>
    let n := len.toNat
    if sync ≠ 0xA5#8 ∨ n < 4 ∨ 250 < n ∨ rest.length < n + 2 then .badFrame false
    else
      let excess := decide (n + 2 < rest.length)
      let body := rest.take n
      if (rest.drop n).take 2 ≠ checkBytes (len :: body) then .badFrame excess
      else match Tag.named (body.take 4) with
        | some t => .command t (body.drop 4) excess
        | none => .badTag excess
  | _ => .badFrame false

/-! ## Responses (R180, R183) -/

/-- R180: a response frame. -/
def responseFrame (st : Status) (flags : Nat) (data : List Byte) : List Byte :=
  let body := byte (2 + data.length) :: byte st.code :: byte flags :: data
  0x5A#8 :: body ++ checkBytes body

end Sys2Proof.Machine
end

