-- ==== Sys2Proof/WellFormed.lean ====
section
/-! DEFINITION. Which terms of Instr stand for a step that can happen: every parameter fits the field
R181 gives it, a command's parameters fit a frame (R180), and line errors lie in the range of R37. -/
namespace Sys2Proof

/-- A reading fits the 7 bytes of R181. -/
def Reading.fits (r : Reading) : Bool :=
  decide (r.year < 65536) && decide (r.month < 256) && decide (r.day < 256) &&
  decide (r.hour < 256) && decide (r.minute < 256) && decide (r.second < 256)

/-- A text fits a count byte. -/
def Text.fits (t : Text) : Bool := decide (t.length < 256)

/-- A signed number fits 4 bytes (R181). -/
def fits32 (i : Int) : Bool := decide (-2147483648 ≤ i) && decide (i < 2147483648)

/-- The parameter bytes of an optional reading. -/
def optReadingSize : Option Reading → Nat
  | none => 1
  | some _ => 8

/-- The parameter bytes of a text. -/
def textSize (t : Text) : Nat := 1 + t.length

def GivenPosition.size (p : GivenPosition) : Nat := 8 + optReadingSize p.fix

def GivenPosition.fits (p : GivenPosition) : Bool :=
  fits32 p.lat && fits32 p.lon && (p.fix.map Reading.fits).getD true

def PositionForm.size : PositionForm → Nat
  | .given p => 1 + p.size
  | .current => 1
  | .absent => 1

def PositionForm.fits : PositionForm → Bool
  | .given p => p.fits
  | .current => true
  | .absent => true

/-- The parameter bytes of a list of species pairs, without the count byte. -/
def speciesSize : List (Text × Nat) → Nat
  | [] => 0
  | p :: rest => textSize p.1 + 4 + speciesSize rest

def HaulContent.size (h : HaulContent) : Nat :=
  optReadingSize h.first + optReadingSize h.last + h.pos.size + 1 + 1 + speciesSize h.species

def HaulContent.fits (h : HaulContent) : Bool :=
  (h.first.map Reading.fits).getD true && (h.last.map Reading.fits).getD true && h.pos.fits &&
  decide (h.species.length < 256) &&
  h.species.all (fun p => Text.fits p.1 && decide (p.2 < 4294967296))

def ChannelFields.fits (f : ChannelFields) : Bool :=
  decide (f.role < 256) && decide (f.freq < 4294967296) && Text.fits f.station && decide (f.floor < 256)

def WindowFields.fits (f : WindowFields) : Bool :=
  decide (f.channel < 256) && decide (f.start < 65536) && decide (f.duration < 256) &&
  decide (f.every < 256) && decide (f.subjects.length < 256) && decide (f.areas.length < 256) &&
  f.areas.all (fun a => decide (a < 256))

/-- The number of parameter bytes of a command's frame (R180, R181); 0 for steps that are no command. -/
def Instr.paramSize : Instr → Nat
  | .vmainLoss | .backupLoss | .resetAssert | .warmReset _ | .coldStart _ => 0
  | .clockSecond | .referenceCheck _ _ | .clockMinute | .scoreDecay | .expirySweep => 0
  | .retryAfterExpiry _ | .checkTimerExpiry | .silencePeriodExpiry => 0
  | .revoke | .settleEnd | .transmissionCompleted | .keySenseRise | .keySenseFall => 0
  | .keyNoResponse | .keyStuck | .carrierEnd => 0
  | .scanDwellEnd | .levelConversionEnd _ | .watchSettleEnd | .watchDwellEnd | .watchHoldExpiry => 0
  | .phasingHeard _ | .turnReceived _ | .clearReceived _ | .lossOfLock _ => 0
  | .trackerPhaseCorrection _ _ _ | .frameRecord _ _ => 0
  | .answerWaitExpiry | .phasingWaitExpiry | .turnWaitExpiry | .symbolWaitExpiry => 0
  | .distressKeyPress | .distressKeyRelease | .keyHoldExpiry | .repeatIntervalExpiry => 0
  | .cancelWindowExpiry | .cancelRetryExpiry | .testReplyWaitExpiry | .cadencePeriodEnd => 0
  | .badFrame _ _ | .overrun _ _ | .responseRead _ => 0
  | .tset _ _ => 7
  | .tget _ => 0
  | .posn _ none => 1
  | .posn _ (some p) => 1 + p.size
  | .pget _ => 0
  | .ship _ v h _ => textSize v + textSize h + 1
  | .chrd _ _ _ => 2
  | .chwr _ _ f => 7 + textSize f.station + 1
  | .tune _ _ _ => 2
  | .fack _ | .fclr _ => 0
  | .dopn _ _ d => 1 + textSize d
  | .dapp _ _ t => 1 + textSize t
  | .ddis _ _ => 1
  | .mred _ _ _ _ none => 5
  | .mred _ _ _ _ (some _) => 6
  | .list _ _ | .mrkr _ _ | .mdel _ _ => 1
  | .hadd _ c => c.size
  | .hred _ _ _ _ => 4
  | .hamd _ _ c => 2 + c.size
  | .hdel _ _ | .trip _ _ => 2
  | .totl _ _ => 1
  | .crep _ d => textSize d
  | .dque _ _ | .qexp _ _ | .qwdr _ _ | .qlst _ _ => 1
  | .skrd _ _ _ => 2
  | .skwr _ _ f => 8 + (1 + f.subjects.length) + (1 + f.areas.length)
  | .dalr _ _ => 1
  | .dtst _ | .dcan _ | .dcnf _ | .dcls _ => 0
  | .hack _ v _ => textSize v + 1
  | .hlst _ _ => 1
  | .note _ => 0
  | .mask _ _ => 2
  | .stat _ _ => 1
  | .prst _ | .asil _ => 0
  | .symbolGroup _ _ | .lineTransition _ _ _ | .symbolSent | .cadenceOnPartEnd => 0
  | .responseTransferReleased _ => 0

/-- The operands of a step fit their fields. -/
def Instr.operandsFit : Instr → Bool
  | .retryAfterExpiry slot => decide (slot < 64)
  | .trackerPhaseCorrection _ e _ | .lineTransition _ e _ => decide (-4 ≤ e) && decide (e ≤ 3)
  | .tset _ r => r.fits
  | .posn _ f => (f.map GivenPosition.fits).getD true
  | .ship _ v h n => Text.fits v && Text.fits h && decide (n < 256)
  | .chrd _ i _ => decide (i < 256)
  | .chwr _ i f => decide (i < 256) && f.fits
  | .tune _ i d => decide (i < 256) && decide (d < 256)
  | .dopn _ c d => decide (c < 256) && Text.fits d
  | .dapp _ s t => decide (s < 256) && Text.fits t
  | .mred _ s o c part => decide (s < 256) && decide (o < 65536) && decide (c < 256) && decide (part.getD 0 < 256)
  | .ddis _ s | .list _ s | .mrkr _ s | .mdel _ s | .dque _ s | .qexp _ s | .qwdr _ s => decide (s < 256)
  | .hadd _ c => c.fits
  | .hred _ h m _ => decide (h < 65536) && decide (m < 256)
  | .hamd _ h c => decide (h < 65536) && c.fits
  | .hdel _ h => decide (h < 65536)
  | .trip _ n => decide (n < 65536)
  | .totl _ n | .qlst _ n | .hlst _ n | .stat _ n => decide (n < 256)
  | .crep _ d => Text.fits d
  | .skrd _ i _ => decide (i < 256)
  | .skwr _ i f => decide (i < 256) && f.fits
  | .hack _ v n => Text.fits v && decide (n < 256)
  | .vmainLoss | .backupLoss | .resetAssert | .warmReset _ | .coldStart _ => true
  | .clockSecond | .referenceCheck _ _ | .clockMinute | .scoreDecay | .expirySweep => true
  | .checkTimerExpiry | .silencePeriodExpiry => true
  | .revoke | .settleEnd | .transmissionCompleted | .keySenseRise | .keySenseFall => true
  | .keyNoResponse | .keyStuck | .carrierEnd => true
  | .scanDwellEnd | .levelConversionEnd _ | .watchSettleEnd | .watchDwellEnd | .watchHoldExpiry => true
  | .phasingHeard _ | .turnReceived _ | .clearReceived _ | .lossOfLock _ | .frameRecord _ _ => true
  | .answerWaitExpiry | .phasingWaitExpiry | .turnWaitExpiry | .symbolWaitExpiry => true
  | .distressKeyPress | .distressKeyRelease | .keyHoldExpiry | .repeatIntervalExpiry => true
  | .cancelWindowExpiry | .cancelRetryExpiry | .testReplyWaitExpiry | .cadencePeriodEnd => true
  | .badFrame _ _ | .overrun _ _ | .responseRead _ => true
  | .tget _ | .pget _ | .fack _ | .fclr _ | .dalr _ _ | .dtst _ | .dcan _ | .dcnf _ | .dcls _ => true
  | .note _ | .mask _ _ | .prst _ | .asil _ => true
  | .symbolGroup _ _ | .symbolSent | .cadenceOnPartEnd | .responseTransferReleased _ => true

/-- A step whose operands fit, in a frame whose parameters fit (R180: length 4–250, 4 of them the tag). -/
def Instr.wf (i : Instr) : Bool := i.operandsFit && decide (i.paramSize ≤ 246)

end Sys2Proof
end

