-- ==== Sys2Proof/Machine/Console.lean ====
section
/-! DEFINITION. How a port takes a command and forms its response (R182, R183). -/
namespace Sys2Proof.Machine

/-- What a command's own rule gives: the state it leaves, the status, and the response data read off the
state once the command has taken effect completely (R182). -/
structure Answer where
  state  : State
  status : Status
  data   : State → List Byte

/-- R182: a refused command has no effect beyond its response. -/
def refuse (s : State) (st : Status) : Answer := ⟨s, st, fun _ => []⟩

def accept (s : State) (data : State → List Byte) : Answer := ⟨s, .ok, data⟩

/-- R183: the flags of a response: overrun, hold present, attention. -/
def State.responseFlags (s : State) (p : Port) : Nat :=
  (if (s.port p).overrun then 1 else 0) + (if (s.port p).hold.isSome then 2 else 0) + (if s.atn p then 4 else 0)

/-- R183: the response is formed, and the port goes to RESPONDING. -/
def State.respond (s : State) (p : Port) (st : Status) (data : List Byte) : State :=
  s.setPort p { s.port p with
    overrun := false, state := .responding,
    response := some ⟨responseFrame st (s.responseFlags p) data, 0⟩ }

/-- R182: the command acts, the hand-offs it causes are taken, and the port responds. -/
def State.carryOut (s : State) (p : Port) (act : State → Answer) : State :=
  let a := act s
  let t := a.state.settle
  t.respond p a.status (a.data t)

/-- R183: sets the overrun flag. -/
def State.setOverrun (s : State) (p : Port) : State := s.setPort p { s.port p with overrun := true }

/-- R183: the response leaves the port, which returns to READY. -/
def PortCtx.drained (c : PortCtx) : PortCtx := { c with state := .ready, response := none }

/-- R183: a transfer of `n` bytes meets a port that is not READY (log 17). In RESPONDING it clocks out as
many bytes of the response; `foreign` says that one of its bytes is other than 0xFF. -/
def State.clockedThrough (s : State) (p : Port) (n : Nat) (foreign : Bool) : State :=
  let c := s.port p
  match c.state with
  | .ready => s
  | .working => if 0 < n then s.setOverrun p else s
  | .responding =>
    let c := if foreign then { c with overrun := true } else c
    match c.response with
    | some r =>
      if r.bytes.length ≤ n then s.setPort p c.drained
      else s.setPort p { c with response := some { r with out := 0 } }
    | none => s.setPort p c

/-- R182: a command of a port: its role, then its own rule. A part that is stopped takes none (R15, R17). -/
def State.command (s : State) (p : Port) (t : Tag) (length : Nat) (act : State → Answer) : State :=
  if s.running then
    if (s.port p).state = .ready then
      if t.permits (s.port p).role then s.carryOut p act else s.carryOut p fun s => refuse s .role
    else s.clockedThrough p length true
  else s

/-- A command given as a row of the table, in a frame with so many parameter bytes. -/
def command (p : Port) (t : Tag) (params : Nat) (act : State → Answer) (s : State) : Host.Outcome State Fault Refusal :=
  .next (s.command p t (params + 8) act)

/-- R184: the hold test of a conditional write. NO_HOLD and HOLD_LOST clear the port's hold. -/
def State.withHold (s : State) (p : Port) (r : HoldRef) (act : State → Answer) : Answer :=
  match (s.port p).holdTest r with
  | .noHold => refuse (s.clearHold p) .noHold
  | .lost => refuse (s.clearHold p) .holdLost
  | .passed => act s

/-- Refuses unless a condition holds. -/
def need (ok : Bool) (st : Status) (s : State) (act : Answer) : Answer := if ok then act else refuse s st

end Sys2Proof.Machine
end

