-- ==== Sys2Proof/Machine/ConsoleChannels.lean ====
section
/-! DEFINITION. Commands on the channel table, the fault record and the tuning carrier (R32, R33, R64 to R66). -/
namespace Sys2Proof.Machine

/-! ## CHRD, CHWR -/

def ChannelRole.code : ChannelRole → Nat
  | .traffic => 0
  | .broadcast => 1
  | .distress => 2

/-- R31, R181: a role by its wire value. -/
def channelRole (n : Nat) : Option ChannelRole :=
  match n with
  | 0 => some .traffic
  | 1 => some .broadcast
  | 2 => some .distress
  | _ => none

/-- R31: every field of an entry. The code has four characters at most (log 49), so the data stay within R180's 246. -/
def emitChannel (c : Channel) : List Byte :=
  emitFlag c.valid ++ u8 c.role.code ++ u32 c.freq ++ emitText c.station ++ u8 c.floor ++ i8 c.score ++ emitFlag c.poor ++
  emitOpt u8 c.last ++ emitOpt u8 c.smooth ++ emitOpt emitStamp c.scanned ++ emitOpt emitStamp c.good

/-- R184: the hold a read sets when it is asked for. -/
def State.holdIf (s : State) (p : Port) (hold : Bool) (r : HoldRef) : State := if hold then s.setHold p r else s

/-- R32. -/
def chrdRule (port : Port) (index : Nat) (hold : Bool) (s : State) : Answer :=
  need (decide (index ≤ 23)) .badParam s <|
    accept (s.holdIf port hold (.channel index)) fun t => emitChannel (t.channel index)

/-- R32. -/
def execChrd (port : Port) (index : Nat) (hold : Bool) (s : State) : Host.Outcome State Fault Refusal :=
  command port .chrd (Instr.paramSize (.chrd port index hold)) (chrdRule port index hold) s

/-- R33: the station code suits the role of a valid entry. -/
def stationFits (role : ChannelRole) (station : Text) : Bool :=
  match role with
  | .traffic => isStation station
  | .broadcast => decide (2 ≤ station.length) && ((foldText station).take 2).all isUpper
  | .distress => true

/-- R33: test 1, but for the role's name (log 32). -/
def channelFieldsOk (index : Nat) (f : ChannelFields) (role : ChannelRole) : Bool :=
  decide (index ≤ 23) && decide (f.floor ≤ 255) && isText f.station &&
  (!f.valid || (decide (16000 ≤ f.freq) && decide (f.freq ≤ 300000) && stationFits role f.station))

/-- R33: the entry as written. R31's code field has four letters, and R33 lets longer codes pass for entries that are
invalid or not TRAFFIC: the first four characters are kept (the model's choice, log 49). -/
def writtenChannel (f : ChannelFields) (role : ChannelRole) : Channel :=
  { Channel.cold with valid := f.valid, role := role, freq := f.freq,
                      station := (foldText f.station).take Config.stationChars, floor := f.floor }

def Channel.watched (c : Channel) : Bool := c.valid && decide (c.role = .distress)

/-- R33: test 3. -/
def State.channelBusy (s : State) (index : Nat) (new : Channel) : Bool :=
  s.channelInUse index || s.windows.any (fun w => decide (w.state = .active) && decide (w.channel = index)) ||
  (decide (s.own.state ≠ .none) && ((s.channel index).watched || new.watched))

/-- R47: what the watch receiver makes of a rewritten entry. -/
def State.watchRewritten (s : State) (index : Nat) : State :=
  if s.watch.entry = some index then
    if (s.channel index).watched then s.watchStepTo index else s.watchStepAfter (some index)
  else if s.watch.state = .idle ∧ (s.channel index).watched = true then s.watchStepAfter none
  else s

/-- R41: a conversion running for the entry is voided. -/
def State.voidConversion (s : State) (index : Nat) : State :=
  { s with sampler := s.sampler.map fun c => if c.entry = index then { c with void := true } else c }

/-- R33: acceptance. -/
def State.rewriteChannel (s : State) (port : Port) (index : Nat) (new : Channel) : State :=
  ((((s.modChannel index fun _ => new).writtenBy port (.channel index)).voidConversion index).watchRewritten index).post
    .scannerCheck

/-- R33. -/
def chwrRule (port : Port) (index : Nat) (f : ChannelFields) (s : State) : Answer :=
  match channelRole f.role with
  | none => refuse s .badParam
  | some role =>
    need (channelFieldsOk index f role) .badParam s <|
    s.withHold port (.channel index) fun s =>
      let new := writtenChannel f role
      need (!s.channelBusy index new) .inUse s <| accept (s.rewriteChannel port index new) fun _ => []

/-- R33. -/
def execChwr (port : Port) (index : Nat) (fields : ChannelFields) (s : State) : Host.Outcome State Fault Refusal :=
  command port .chwr (Instr.paramSize (.chwr port index fields)) (chwrRule port index fields) s

/-! ## TUNE -/

/-- R66. -/
def tuneRule (index duration : Nat) (s : State) : Answer :=
  need (decide (index ≤ 23) && decide (1 ≤ duration) && decide (duration ≤ 30)) .badParam s <|
  need (!s.gateClosed) .wrongState s <|
  need (s.channel index).valid .noChannel s <|
  need (!s.hasClaim .tune) .inUse s <|
    let t := { s with arb := { s.arb with tune := some ⟨index, duration⟩ } }.claim .tune
    accept t fun _ => emitFlag (decide (t.holder = some .tune))

/-- R66. -/
def execTune (port : Port) (index duration : Nat) (s : State) : Host.Outcome State Fault Refusal :=
  command port .tune (Instr.paramSize (.tune port index duration)) (tuneRule index duration) s

/-! ## FACK, FCLR -/

def Claimant.code (c : Claimant) : Nat := c.priority - 1

def KeyFaultKind.code : KeyFaultKind → Nat
  | .noResponse => 0
  | .stuck => 1

def FaultState.code : FaultState → Nat
  | .none => 0
  | .pending => 1
  | .lockout => 2

/-- R61: a fault entry. -/
def emitFault (e : FaultEntry) : List Byte :=
  u8 e.kind.code ++ emitStamp e.time ++ emitOpt (fun (c : Claimant) => u8 c.code) e.holder ++ emitOpt u8 e.channel

/-- R62: the fault record. -/
def emitFaultRecord (f : FaultRecord) : List Byte :=
  u8 f.state.code ++ emitOpt emitFault f.first ++ emitOpt emitFault f.second ++ u8 f.count

/-- R62, R64, R65: the fault record becomes NONE: the alarm cause, and the link engine's test. -/
def State.faultCleared (s : State) (f : FaultRecord) : State :=
  ({ s with fault := { f with state := .none } }.alarmActive .fault false).post .linkTest

/-- R64. -/
def fackRule (s : State) : Answer :=
  need (decide (s.fault.state = .pending)) .wrongState s <|
    accept (s.faultCleared { s.fault with first := none }) fun _ => emitFaultRecord s.fault

/-- R64. -/
def execFack (port : Port) (s : State) : Host.Outcome State Fault Refusal :=
  command port .fack (Instr.paramSize (.fack port)) fackRule s

/-- R65. -/
def fclrRule (s : State) : Answer :=
  need (decide (s.fault.state ≠ .none)) .wrongState s <|
    accept (s.faultCleared FaultRecord.reset) fun _ => emitFaultRecord s.fault

/-- R65. -/
def execFclr (port : Port) (s : State) : Host.Outcome State Fault Refusal :=
  command port .fclr (Instr.paramSize (.fclr port)) fclrRule s

end Sys2Proof.Machine
end

