-- ==== Sys2Proof/Machine/ConsoleTime.lean ====
section
/-! DEFINITION. Commands on the clock, the position record and the identity record (R25 to R29). -/
namespace Sys2Proof.Machine

/-- A letter that names a port, by its character code (R181). -/
def portLetter : Port → Byte
  | .a => 0x41#8
  | .b => 0x42#8
  | .c => 0x43#8

/-! ## TSET, TGET -/

/-- R25: the set itself; an untaken clock minute is taken first (log 12). The bulletin engine takes the set before the link
engine tests its start for a state that became LOCKED: the model's choice, log 55. -/
def State.setClock (s : State) (r : Reading) : State :=
  let s := s.takeMinute
  let s := { s with time := { s.time with reading := r } }
  let s := if s.time.state = .unset then s.setTimeState (if s.time.qualified then .locked else .holdover) else s
  s.bullTimeSet

/-- R25. -/
def tsetRule (r : Reading) (s : State) : Answer :=
  need (readingOk r) .badParam s <|
    accept (s.setClock r) fun t => emitReading t.time.reading ++ u8 t.time.state.code

/-- R25. -/
def execTset (port : Port) (reading : Reading) (s : State) : Host.Outcome State Fault Refusal :=
  command port .tset (Instr.paramSize (.tset port reading)) (tsetRule reading) s

/-- R26: the timebase as TGET gives it. -/
def State.timeData (s : State) : List Byte :=
  emitReading s.time.reading ++ u8 s.time.state.code ++ emitFlag s.time.qualified ++ u8 s.time.good ++ u8 s.time.bad ++
  u32 s.time.elapsed.toNat

/-- R26. -/
def execTget (port : Port) (s : State) : Host.Outcome State Fault Refusal :=
  command port .tget (Instr.paramSize (.tget port)) (fun s => accept s State.timeData) s

/-! ## POSN, PGET -/

/-- R27: a reading given by a master is not more than 60 seconds ahead of the clock, unless UNSET. -/
def State.notAhead (s : State) (r : Reading) : Bool :=
  decide (s.time.state = .unset) || decide (instant r ≤ s.clock + 60)

/-- R27: the checks of the set form. -/
def State.givenOk (s : State) (g : GivenPosition) : Bool :=
  decide (-54000 ≤ g.lat) && decide (g.lat ≤ 54000) && decide (-108000 ≤ g.lon) && decide (g.lon ≤ 108000) &&
  (match g.fix with
   | some r => readingOk r && s.notAhead r
   | none => true)

/-- R27: the fix time of a given position. -/
def State.givenFix (s : State) (g : GivenPosition) : Stamp := ⟨g.fix.getD s.time.reading, s.time.state⟩

/-- R27: POSN in its two forms. -/
def posnRule (form : Option GivenPosition) (s : State) : Answer :=
  let written : State → List Byte := fun t =>
    emitFlag t.position.valid ++ i32 t.position.lat ++ i32 t.position.lon ++ emitStamp t.position.fix
  match form with
  | none => accept { s with position := { s.position with valid := false } } written
  | some g =>
    need (s.givenOk g) .badParam s <|
      accept { s with position := { valid := true, lat := g.lat, lon := g.lon, fix := s.givenFix g } } written

/-- R27. -/
def execPosn (port : Port) (form : Option GivenPosition) (s : State) : Host.Outcome State Fault Refusal :=
  command port .posn (Instr.paramSize (.posn port form)) (posnRule form) s

/-- R28: a position reading with its stale verdict. -/
def State.positionData (s : State) : List Byte :=
  emitFlag s.position.valid ++ i32 s.position.lat ++ i32 s.position.lon ++ emitStamp s.position.fix ++
  emitOpt emitFlag s.positionStale

/-- R28. -/
def execPget (port : Port) (s : State) : Host.Outcome State Fault Refusal :=
  command port .pget (Instr.paramSize (.pget port)) (fun s => accept s State.positionData) s

/-! ## SHIP -/

/-- R29: the identity record. -/
def State.identData (s : State) : List Byte :=
  emitText s.ident.vessel ++ emitText s.ident.home ++ u8 s.ident.interval ++ u16 s.ident.trip ++ u16 s.ident.nextMsg ++
  u16 s.ident.nextReport

/-- R29, R116, R125. -/
def shipRule (vessel home : Text) (interval : Nat) (s : State) : Answer :=
  let v := foldText vessel
  need (isVessel vessel && isStation home && decide (interval ≤ 24)) .badParam s <|
  need (decide (v = s.ident.vessel) || (decide (s.own.state = .none) && decide (s.link.state = .idle))) .wrongState s <|
    accept (({ s with ident := { s.ident with vessel := v, home := foldText home, interval := interval } }.checkTest true).post
      .linkTest) State.identData

/-- R29. -/
def execShip (port : Port) (vessel home : Text) (interval : Nat) (s : State) : Host.Outcome State Fault Refusal :=
  command port .ship (Instr.paramSize (.ship port vessel home interval)) (shipRule vessel home interval) s

end Sys2Proof.Machine
end

