-- ==== Sys2Proof/Machine/ConsoleStore.lean ====
section
/-! DEFINITION. Commands on the message store (R79 to R85). -/
namespace Sys2Proof.Machine

/-! ## Fields of records -/

def MsgClass.code : MsgClass → Nat
  | .urgent => 0
  | .catch_ => 1
  | .routine => 2

/-- R72, R181: a class by its wire value. -/
def msgClass (n : Nat) : Option MsgClass :=
  match n with
  | 0 => some .urgent
  | 1 => some .catch_
  | 2 => some .routine
  | _ => none

def OutState.code : OutState → Nat
  | .draft => 0
  | .queued => 1
  | .sending => 2
  | .delivered => 3
  | .failed => 4

def InState.code : InState → Nat
  | .receiving => 0
  | .complete => 1
  | .incomplete => 2

def FailReason.code : FailReason → Nat
  | .busy => 0
  | .noAnswer => 1
  | .linkLost => 2
  | .notHeldLimit => 3

/-- R118, R181: the addressee's letter. -/
def Addressee.letter : Addressee → Byte
  | .bridge => 0x42#8
  | .radio => 0x52#8
  | .catch_ => 0x43#8
  | .all => 0x41#8

/-- R71: the kinds, in the rule's order. -/
def Body.kindCode : Body → Nat
  | .outbound _ => 0
  | .inbound _ => 1
  | .bulletin _ => 2

/-- R71: the state of a record; a bulletin's is COMPLETE or PARTIAL. -/
def Body.stateCode : Body → Nat
  | .outbound o => o.state.code
  | .inbound i => i.state.code
  | .bulletin b => if b.complete then 0 else 1

/-- R71: the length of a record. -/
def Record.length (r : Record) : Nat := r.text.length

def slotOk (n : Nat) : Bool := decide (n ≤ 63)

/-- The store after an operation of a master, with the low-space watch tested (R77). -/
def State.withStore (s : State) (st : Store) : State := { s with store := st }.lowTest

/-- R79, R80, R81: a command on a record in a slot: BAD_PARAM, then NO_RECORD. -/
def State.onRecord (s : State) (slot : Nat) (ok : Bool) (act : Record → Answer) : Answer :=
  need (slotOk slot && ok) .badParam s <|
    match s.record slot with
    | none => refuse s .noRecord
    | some r => act r

/-- R80, R81, R108: a command on the port's own draft: WRONG_STATE, then ROLE. -/
def State.onDraft (s : State) (port : Port) (r : Record) (act : Outbound → Answer) : Answer :=
  match r.body with
  | .outbound o =>
    need (decide (o.state = .draft)) .wrongState s <| need (decide (r.origin = some port)) .role s <| act o
  | .inbound _ | .bulletin _ => refuse s .wrongState

/-! ## Drafts -/

/-- R79: a draft as opened. -/
def newDraft (cls : MsgClass) (dest : Text) : Outbound :=
  { state := .draft, cls := cls, dest := dest, msg := none, resume := 0, attempts := 0, retry := none, failure := none,
    hauls := [], text := [], pages := [] }

/-- R79. -/
def dopnRule (port : Port) (cls : Nat) (dest : Text) (s : State) : Answer :=
  match msgClass cls with
  | none => refuse s .badParam
  | some c =>
    need (isStation dest) .badParam s <|
    need (!(decide (c = .urgent) && decide ((s.port port).role = .catch_))) .role s <|
    match s.store.request s.clock 1 0 with
    | none => refuse s .slotsFull
    | some st =>
      let made := st.create { origin := some port, created := s.stamp, body := .outbound (newDraft c (foldText dest)) }
      accept (s.withStore made.2) fun _ => u8 made.1

/-- R79. -/
def execDopn (port : Port) (cls : Nat) (dest : Text) (s : State) : Host.Outcome State Fault Refusal :=
  command port .dopn (Instr.paramSize (.dopn port cls dest)) (dopnRule port cls dest) s

/-- R80. -/
def dappRule (port : Port) (slot : Nat) (chars : Text) (s : State) : Answer :=
  s.onRecord slot (decide (1 ≤ chars.length) && decide (chars.length ≤ 200) && isText chars) fun r =>
  s.onDraft port r fun o =>
    let length := o.text.length + chars.length
    need (decide (length ≤ Config.maxText)) .badParam s <|
    let more := pagesFor length - o.pages.length
    match s.store.request s.clock 0 more with
    | none => refuse s .storeFull
    | some st =>
      let taken := st.takePages more
      let written := { s with store := taken.2 }.modOutbound slot fun o =>
        { o with text := o.text ++ foldText chars, pages := o.pages ++ taken.1 }
      accept written.lowTest fun _ => u16 length

/-- R80. -/
def execDapp (port : Port) (slot : Nat) (chars : Text) (s : State) : Host.Outcome State Fault Refusal :=
  command port .dapp (Instr.paramSize (.dapp port slot chars)) (dappRule port slot chars) s

/-- R81. -/
def ddisRule (port : Port) (slot : Nat) (s : State) : Answer :=
  s.onRecord slot true fun r =>
  s.onDraft port r fun o => accept (s.withStore (s.store.delete .master slot)) fun _ => u8 o.pages.length

/-- R81. -/
def execDdis (port : Port) (slot : Nat) (s : State) : Host.Outcome State Fault Refusal :=
  command port .ddis (Instr.paramSize (.ddis port slot)) (ddisRule port slot) s

/-! ## MRED -/

/-- R72, R112: the seconds left on a retry-after. -/
def State.retryLeft (s : State) (o : Outbound) : Option Nat := o.retry.map fun r => Config.retryAfterSec - s.since r

/-- R74: the key of a bulletin. -/
def emitKey (k : BulletinKey) : List Byte := emitText k.office ++ [k.subject] ++ u8 k.area ++ u8 k.day ++ u8 k.hour

/-- R82: the common fields, without the page list. -/
def emitCommon (slot : Nat) (r : Record) : List Byte :=
  u8 slot ++ u8 r.body.kindCode ++ u8 r.body.stateCode ++ emitOpt (fun p => [portLetter p]) r.origin ++
  emitStamp r.created ++ u16 r.length

/-- R72, R82. -/
def State.outboundData (s : State) (o : Outbound) : List Byte :=
  u8 o.cls.code ++ emitText o.dest ++ emitOpt u16 o.msg ++ u16 o.resume ++ u8 o.attempts ++ emitOpt u16 (s.retryLeft o) ++
  emitOpt (fun (f : FailReason) => u8 f.code) o.failure ++
  emitOpt (fun l => emitList (l.map u16)) (if o.isReport then some o.hauls else none) ++ u16 o.streamLength

/-- R73, R82. -/
def inboundData (i : Inbound) : List Byte :=
  emitOpt u16 i.coastMsg ++ [i.addressee.letter] ++ emitOpt u16 i.declared ++ u16 i.text.length ++ emitFlag i.read ++
  emitFlag i.noHeader

/-- R74, R82: the fields of a BULLETIN record, or of one of its parts. -/
def bulletinData (b : Bulletin) (part : Option PartEntry) : List Byte :=
  emitKey b.key ++ u8 b.count ++
  match part with
  | some e => u8 e.number ++ u16 e.damaged ++ emitStamp e.received ++ u16 e.text.length
  | none => emitReading (readingAt b.expiry) ++ emitList (b.parts.map fun e => u8 e.number ++ u16 e.damaged)

/-- R82: the fields MRED gives before the text. -/
def State.recordData (s : State) (slot : Nat) (r : Record) (part : Option PartEntry) : List Byte :=
  emitCommon slot r ++
  match r.body with
  | .outbound o => s.outboundData o
  | .inbound i => inboundData i
  | .bulletin b => bulletinData b part

/-- R82: the part a part number names: `none` when it names none, `some none` when no number is given. -/
def Record.partNamed (r : Record) (part : Option Nat) : Option (Option PartEntry) :=
  match part, r.body with
  | none, _ => some none
  | some n, .bulletin b => (b.parts.find? fun e => decide (e.number = n)).map some
  | some _, .outbound _ | some _, .inbound _ => none

/-- R82: the text from the offset, cut to the frame (R181), and the number of characters returned. -/
def emitPiece (fixed : Nat) (text : Text) (offset count : Nat) : List Byte :=
  let piece := ((text.drop offset).take count).take (Config.maxData - fixed - 2)
  emitText piece ++ u8 piece.length

/-- R82. -/
def mredRule (slot offset count : Nat) (part : Option Nat) (s : State) : Answer :=
  s.onRecord slot (decide (count ≤ 200)) fun r =>
    match r.partNamed part with
    | none => refuse s .badParam
    | some e =>
      let text := e.elim r.text (fun (e : PartEntry) => e.text)
      need (decide (offset ≤ text.length)) .badParam s <|
        accept s fun t =>
          let fields := t.recordData slot r e
          fields ++ emitPiece fields.length text offset count

/-- R82. -/
def execMred (port : Port) (slot offset count : Nat) (part : Option Nat) (s : State) :
    Host.Outcome State Fault Refusal :=
  command port .mred (Instr.paramSize (.mred port slot offset count part)) (mredRule slot offset count part) s

/-! ## LIST, MRKR, MDEL -/

/-- R83: one entry. -/
def emitListed (slot : Nat) (r : Record) : List Byte :=
  u8 slot ++ u8 r.body.kindCode ++ u8 r.body.stateCode ++ u16 r.length ++
  match r.body with
  | .outbound _ => []
  | .inbound i => emitFlag i.read ++ [i.addressee.letter]
  | .bulletin b => [b.key.subject]

/-- The slots in use from a slot on, with their records. -/
def Store.inUse (st : Store) (start : Nat) : List (Nat × Record) :=
  (List.range st.slots.length).filterMap fun n => if start ≤ n then (st.slot n).map fun r => (n, r) else none

/-- R83. -/
def State.listData (s : State) (start : Nat) : List Byte :=
  let l := s.store.inUse start
  emitList ((l.take 32).map fun p => emitListed p.1 p.2) ++ emitFlag (decide (32 < l.length)) ++
  u8 s.store.freeSlots ++ u16 s.store.free.length ++ emitFlag s.store.low

/-- R83. -/
def listRule (slot : Nat) (s : State) : Answer :=
  need (slotOk slot) .badParam s <| accept s fun t => t.listData slot

/-- R83. -/
def execList (port : Port) (slot : Nat) (s : State) : Host.Outcome State Fault Refusal :=
  command port .list (Instr.paramSize (.list port slot)) (listRule slot) s

/-- R84. -/
def mrkrRule (slot : Nat) (s : State) : Answer :=
  s.onRecord slot true fun r =>
    match r.body with
    | .inbound i => accept (s.modInbound slot fun i => { i with read := true }) fun _ => u8 i.state.code
    | .outbound _ | .bulletin _ => refuse s .wrongState

/-- R84. -/
def execMrkr (port : Port) (slot : Nat) (s : State) : Host.Outcome State Fault Refusal :=
  command port .mrkr (Instr.paramSize (.mrkr port slot)) (mrkrRule slot) s

/-- R85: a record in flight. -/
def Record.inFlight (r : Record) : Bool :=
  match r.body with
  | .outbound o => decide (o.state = .queued) || decide (o.state = .sending)
  | .inbound i => decide (i.state = .receiving)
  | .bulletin _ => false

/-- R85. -/
def mdelRule (port : Port) (slot : Nat) (s : State) : Answer :=
  s.onRecord slot true fun r =>
    need (isRadio (s.port port).role || decide (r.origin = some port)) .role s <|
    need (!r.inFlight) .inFlight s <|
      accept (s.withStore (s.store.delete .master slot)) fun _ => u8 r.body.kindCode ++ u8 r.body.stateCode

/-- R85. -/
def execMdel (port : Port) (slot : Nat) (s : State) : Host.Outcome State Fault Refusal :=
  command port .mdel (Instr.paramSize (.mdel port slot)) (mdelRule port slot) s

end Sys2Proof.Machine
end

