-- ==== Sys2Proof/Machine/ConsoleDistress.lean ====
section
/-! DEFINITION. Commands on the own alert and on the heard list (R165, R166, R171 to R173, R176). -/
namespace Sys2Proof.Machine

def AlertState.code : AlertState → Nat
  | .none => 0
  | .arming => 1
  | .testing => 2
  | .active => 3
  | .acknowledged => 4
  | .cancelPending => 5
  | .cancelling => 6

/-- R165: the states in which DALR begins a new alert. -/
def AlertState.startable : AlertState → Bool
  | .none | .arming | .testing => true
  | .active | .acknowledged | .cancelPending | .cancelling => false

/-- R165. -/
def dalrRule (nature : Byte) (s : State) : Answer :=
  let n := foldChar nature
  need (isNature n) .badParam s <|
  need (s.own.state.startable || decide (s.own.state = .active)) .wrongState s <|
  need (!(s.own.state.startable && decide (s.ident.vessel = []))) .wrongState s <|
    let t := if s.own.state.startable then s.newAlert n else s.setOwn { s.own with nature := n }
    accept t fun _ => u8 t.own.state.code ++ u8 t.own.number ++ [t.own.nature]

/-- R165. -/
def execDalr (port : Port) (nature : Byte) (s : State) : Host.Outcome State Fault Refusal :=
  command port .dalr (Instr.paramSize (.dalr port nature)) (dalrRule nature) s

/-- R166: acceptance. -/
def State.startTest (s : State) : State :=
  ((s.setOwn { s.own with testCoast := none, testWait := false }).setOwnState .testing).callCycle .test

/-- R166. -/
def dtstRule (s : State) : Answer :=
  need (decide (s.own.state = .none)) .wrongState s <|
  need (decide (s.ident.vessel ≠ [])) .wrongState s <|
  match s.watchList with
  | [] => refuse s .noChannel
  | i :: _ => accept s.startTest fun _ => u8 i

/-- R166. -/
def execDtst (port : Port) (s : State) : Host.Outcome State Fault Refusal :=
  command port .dtst (Instr.paramSize (.dtst port)) dtstRule s

/-- R171. -/
def dcanRule (port : Port) (s : State) : Answer :=
  need (decide (s.own.state = .active) || decide (s.own.state = .acknowledged)) .wrongState s <|
    accept ((s.setOwn { s.own with ret := some (decide (s.own.state = .acknowledged)), requester := some port }).setOwnState
      .cancelPending) fun t => u8 t.own.number

/-- R171. -/
def execDcan (port : Port) (s : State) : Host.Outcome State Fault Refusal :=
  command port .dcan (Instr.paramSize (.dcan port)) (dcanRule port) s

/-- R172. -/
def dcnfRule (port : Port) (s : State) : Answer :=
  need (decide (s.own.state = .cancelPending) && decide (s.own.requester ≠ some port)) .wrongState s <|
    accept (((s.setOwn { s.own with ret := none, requester := none }).setOwnState .cancelling).callCycle .cancel) fun _ => []

/-- R172. -/
def execDcnf (port : Port) (s : State) : Host.Outcome State Fault Refusal :=
  command port .dcnf (Instr.paramSize (.dcnf port)) (dcnfRule port) s

/-- R173. -/
def dclsRule (s : State) : Answer :=
  need (decide (s.own.state = .acknowledged)) .wrongState s <|
    accept (s.setOwnState .none) fun _ => emitOpt emitText s.own.ackCoast

/-- R173. -/
def execDcls (port : Port) (s : State) : Host.Outcome State Fault Refusal :=
  command port .dcls (Instr.paramSize (.dcls port)) dclsRule s

/-! ## Heard list -/

def HeardState.code : HeardState → Nat
  | .active => 0
  | .acknowledged => 1
  | .cancelled => 2

/-- R175: every field of an entry; the source is DIRECT, or RELAY with its coast code. -/
def emitHeard (h : Heard) : List Byte :=
  emitText h.vessel ++ u8 h.number ++ emitOpt emitText h.relay ++ u8 h.state.code ++ emitOpt (fun c => [c]) h.nature ++
  emitOpt emitText h.pos ++ emitOpt emitText h.fix ++ emitStamp h.first ++ emitStamp h.last ++ u8 h.times ++ emitFlag h.acked

def Heard.named (h : Heard) (vessel : Text) (number : Nat) : Bool :=
  decide (h.vessel = vessel) && decide (h.number = number)

/-- R176: the entry's locally acknowledged flag is set. -/
def State.ackHeard (s : State) (vessel : Text) (number : Nat) : State :=
  let s := { s with heard := s.heard.map fun (h : Heard) => if h.named vessel number then { h with acked := true } else h }
  if s.heard.all (·.acked) then s.alarmActive .distressHeard false else s

/-- R176. -/
def hackRule (vessel : Text) (number : Nat) (s : State) : Answer :=
  let v := foldText vessel
  need ((isVessel vessel || decide (v = unknownText)) && decide (1 ≤ number) && decide (number ≤ 99)) .badParam s <|
  need (s.heard.any fun h => h.named v number) .noRecord s <|
    accept (s.ackHeard v number) fun t => (t.heard.find? fun h => h.named v number).elim [] emitHeard

/-- R176. -/
def execHack (port : Port) (vessel : Text) (number : Nat) (s : State) : Host.Outcome State Fault Refusal :=
  command port .hack (Instr.paramSize (.hack port vessel number)) (hackRule vessel number) s

/-- R176. -/
def State.heardData (s : State) (position : Nat) : List Byte :=
  emitList (cutTo 4 (((s.heard.drop (position - 1)).take 4).map emitHeard)) ++ u8 s.heard.length ++
  u8 (s.heard.countP fun h => !h.acked) ++ u16 s.heardCounts.overflow

/-- R176. -/
def hlstRule (position : Nat) (s : State) : Answer :=
  need (decide (1 ≤ position) && decide (position ≤ 8)) .badParam s <| accept s fun t => t.heardData position

/-- R176. -/
def execHlst (port : Port) (position : Nat) (s : State) : Host.Outcome State Fault Refusal :=
  command port .hlst (Instr.paramSize (.hlst port position)) (hlstRule position) s

end Sys2Proof.Machine
end

