-- ==== Sys2Proof/Machine/ConsoleHauls.lean ====
section
/-! DEFINITION. Commands on the haul log (R87 to R104). -/
namespace Sys2Proof.Machine

/-! ## Haul content (R89, R90) -/

/-- A haul content as it stands once its defaults are taken. -/
structure TakenContent where
  first   : Stamp
  last    : Stamp
  pos     : HaulPosition
  gear    : Byte
  species : List (Text × Nat)
  deriving DecidableEq, Repr

/-- R89: an omitted end takes the clock reading. -/
def State.lastOf (s : State) (c : HaulContent) : Reading := c.last.getD s.time.reading

/-- R89: an omitted start takes the end. -/
def State.firstOf (s : State) (c : HaulContent) : Reading := c.first.getD (s.lastOf c)

/-- R90: a position given in a haul passes the checks of POSN. -/
def State.formOk (s : State) : PositionForm → Bool
  | .given g => s.givenOk g
  | .current | .absent => true

/-- No element stands twice. -/
def distinct {α : Type} [DecidableEq α] : List α → Bool
  | [] => true
  | x :: rest => !decide (x ∈ rest) && distinct rest

/-- R89: the species pairs. -/
def speciesOk (l : List (Text × Nat)) : Bool :=
  decide (1 ≤ l.length) && decide (l.length ≤ 6) &&
  l.all (fun p => decide (p.1.length = 3) && (foldText p.1).all isUpper && decide (p.2 ≤ 999999)) &&
  distinct (l.map fun p => foldText p.1)

/-- R89: the content is well formed. -/
def State.contentOk (s : State) (c : HaulContent) : Bool :=
  c.first.all readingOk && c.last.all readingOk &&
  decide (instant (s.firstOf c) ≤ instant (s.lastOf c)) && s.notAhead (s.lastOf c) && s.formOk c.pos &&
  isUpper (foldChar c.gear) && speciesOk c.species

/-- R90: the position a haul takes. -/
def State.haulPosition (s : State) : PositionForm → HaulPosition
  | .given g => .present g.lat g.lon (s.givenFix g)
  | .current =>
    if s.positionStale = some false then .present s.position.lat s.position.lon s.position.fix else .pending
  | .absent => .absent

/-- R89, R90: the content with its defaults. -/
def State.take (s : State) (c : HaulContent) : TakenContent :=
  { first := ⟨s.firstOf c, s.time.state⟩, last := ⟨s.lastOf c, s.time.state⟩, pos := s.haulPosition c.pos,
    gear := foldChar c.gear, species := c.species.map fun p => (foldText p.1, p.2) }

/-- A haul with a new content. -/
def Haul.withContent (h : Haul) (c : TakenContent) : Haul :=
  { h with first := c.first, last := c.last, pos := c.pos, gear := c.gear, species := c.species }

/-! ## Totals (R88) -/

/-- R88: the codes of a content the table does not hold, in the order of the pairs. -/
def HaulLog.newCodes (l : HaulLog) (species : List (Text × Nat)) : List Text :=
  (species.map (·.1)).filter fun c => !l.totals.any fun t => decide (t.code = c)

/-- R91, R95: the table can take the new codes. -/
def HaulLog.speciesFit (l : HaulLog) (species : List (Text × Nat)) : Bool :=
  decide (l.totals.length + (l.newCodes species).length ≤ Config.speciesMax)

/-- R88: entries for new codes, at the tail. -/
def HaulLog.withCodes (l : HaulLog) (species : List (Text × Nat)) : HaulLog :=
  { l with totals := l.totals ++ (l.newCodes species).map fun c => ⟨c, 0, 0⟩ }

/-- The weight of a species in a list of pairs. -/
def weightOf (code : Text) (l : List (Text × Nat)) : Nat :=
  ((l.filter fun p => decide (p.1 = code)).map (·.2)).sum

/-- R88: the trip totals move by new weights less old ones. -/
def HaulLog.moved (l : HaulLog) (new old : List (Text × Nat)) : HaulLog :=
  { l with totals := l.totals.map fun (t : SpeciesTotal) =>
      { t with total := t.total + weightOf t.code new - weightOf t.code old } }

/-- R92: weights of a folded haul join the carried totals. -/
def HaulLog.carried (l : HaulLog) (species : List (Text × Nat)) : HaulLog :=
  { l with totals := l.totals.map fun (t : SpeciesTotal) => { t with carried := t.carried + weightOf t.code species } }

/-! ## Hauls -/

def HaulLog.haul (l : HaulLog) (n : Nat) : Option Haul := l.hauls.find? fun h => decide (h.number = n)

def HaulLog.without (l : HaulLog) (n : Nat) : HaulLog := { l with hauls := l.hauls.filter fun h => decide (h.number ≠ n) }

def HaulLog.modify (l : HaulLog) (n : Nat) (f : Haul → Haul) : HaulLog :=
  { l with hauls := l.hauls.map fun (h : Haul) => if h.number = n then f h else h }

def HaulState.code : HaulState → Nat
  | .unreported => 0
  | .reporting => 1
  | .reported => 2

def HaulPosition.code : HaulPosition → Nat
  | .present _ _ _ => 0
  | .pending => 1
  | .absent => 2

def emitHaulPosition (p : HaulPosition) : List Byte :=
  u8 p.code ++
  match p with
  | .present lat lon fix => i32 lat ++ i32 lon ++ emitStamp fix
  | .pending | .absent => []

/-- R87: every field of a haul. -/
def emitHaul (h : Haul) : List Byte :=
  u16 h.number ++ u8 h.state.code ++ emitFlag h.cor ++ emitStamp h.first ++ emitStamp h.last ++ emitHaulPosition h.pos ++
  [h.gear] ++ emitList (h.species.map emitPair) ++ emitOpt u16 h.report ++ [portLetter h.origin]

/-- The holds of every port on a haul are lost. -/
def State.loseHaul (s : State) (n : Nat) : State := s.loseHolds fun r => decide (r = .haul n)

/-! ## HADD (R91, R92) -/

/-- R92: the haul an accepted HADD folds. -/
def HaulLog.toFold (l : HaulLog) : Option Haul :=
  if Config.logMax ≤ l.hauls.length then l.hauls.find? fun h => decide (h.state = .reported) else none

/-- R92: the fold. -/
def State.fold (s : State) (h : Option Haul) : State :=
  match h with
  | none => s
  | some h => { s with log := (s.log.carried h.species).without h.number }.loseHaul h.number

/-- R91: test 3 fails. -/
def HaulLog.isFull (l : HaulLog) : Bool :=
  l.next.isNone || (decide (Config.logMax ≤ l.hauls.length) && l.toFold.isNone)

/-- R87: after haul 999 the next number is none. -/
def nextHaul (n : Nat) : Option Nat := if 999 ≤ n then none else some (n + 1)

/-- R91: acceptance, from the haul number taken. -/
def State.addHaul (s : State) (port : Port) (n : Nat) (c : TakenContent) : State :=
  let s := s.fold s.log.toFold
  let h : Haul := { number := n, state := .unreported, cor := false, first := c.first, last := c.last, pos := c.pos,
                    gear := c.gear, species := c.species, report := none, origin := port }
  let l := (s.log.withCodes c.species).moved c.species []
  { s with log := { l with hauls := l.hauls ++ [h], next := nextHaul n } }.raiseOthers .haul port

/-- R90: why a haul's position is PENDING: 0 invalid, 1 stale. -/
def State.pendingReason (s : State) (p : HaulPosition) : Option Nat :=
  match p with
  | .pending => some (if s.position.valid then 1 else 0)
  | .present _ _ _ | .absent => none

/-- R91. -/
def haddRule (port : Port) (c : HaulContent) (s : State) : Answer :=
  let t := s.take c
  need (s.contentOk c) .badParam s <|
  need (s.log.speciesFit t.species) .speciesFull s <|
  need (!s.log.isFull) .logFull s <|
    let n := s.log.next.getD 0
    accept (s.addHaul port n t) fun _ =>
      u16 n ++ u8 t.pos.code ++ emitOpt u8 (s.pendingReason t.pos) ++
      emitOpt (fun (h : Haul) => u16 h.number) s.log.toFold

/-- R91. -/
def execHadd (port : Port) (content : HaulContent) (s : State) : Host.Outcome State Fault Refusal :=
  command port .hadd (Instr.paramSize (.hadd port content)) (haddRule port content) s

/-! ## HRED (R93) -/

def haulNumberOk (n : Nat) : Bool := decide (1 ≤ n) && decide (n ≤ 999)

/-- R93: the haul read: mode 0 EXACT, 1 NEXT. -/
def HaulLog.seek (l : HaulLog) (n mode : Nat) : Option Haul :=
  if mode = 0 then l.haul n else l.hauls.find? fun h => decide (n ≤ h.number)

/-- R93. -/
def hredRule (port : Port) (haul mode : Nat) (hold : Bool) (s : State) : Answer :=
  need (haulNumberOk haul && decide (mode ≤ 1)) .badParam s <|
  match s.log.seek haul mode with
  | none => refuse s .noRecord
  | some h =>
    accept (if hold then s.setHold port (.haul h.number) else s) fun _ =>
      emitHaul h ++ emitFlag (s.log.hauls.any fun x => decide (h.number < x.number))

/-- R93. -/
def execHred (port : Port) (haul mode : Nat) (hold : Bool) (s : State) : Host.Outcome State Fault Refusal :=
  command port .hred (Instr.paramSize (.hred port haul mode hold)) (hredRule port haul mode hold) s

/-! ## HAMD (R95 to R97) -/

/-- R101: the open report that lists a haul. -/
def HaulLog.reportOf (l : HaulLog) (n : Nat) : Option OpenReport := l.reports.find? fun r => decide (n ∈ r.hauls)

/-- R95: the catch report listing a haul is SENDING, or QUEUED with a resume point above 0. -/
def State.haulInFlight (s : State) (h : Haul) : Bool :=
  decide (h.state = .reporting) &&
  match (s.log.reportOf h.number).bind fun r => s.outbound r.slot with
  | some o => decide (o.state = .sending) || decide (0 < o.resume)
  | none => false

/-- R97: the report that lists a haul is withdrawn. Its outcome raises HAUL on all ports (R105), the one that gave the
HAMD among them, which R96 excepts: the model's choice, log 54. -/
def State.withdrawReport (s : State) (r : OpenReport) : State :=
  let s := s.leaveQueue r.slot
  ({ s with store := s.store.delete .master r.slot }.lowTest).reportOutcome r.slot .withdrawn

/-- R96: the state and the correction flag an amended haul takes. -/
def Haul.amended (h : Haul) : Haul :=
  match h.state with
  | .reported => { h with state := .unreported, cor := true, report := none }
  | .unreported | .reporting => h

/-- R96: the report an amendment withdraws. -/
def State.withdrawnBy (s : State) (h : Haul) : Option OpenReport :=
  if h.state = .reporting then s.log.reportOf h.number else none

/-- R96: acceptance. -/
def State.amendHaul (s : State) (port : Port) (h : Haul) (c : TakenContent) : State :=
  let s := match s.withdrawnBy h with
    | some r => s.withdrawReport r
    | none => s
  let l := (s.log.withCodes c.species).moved c.species h.species
  ({ s with log := l.modify h.number fun h => h.amended.withContent c }.writtenBy port (.haul h.number)).raiseOthers .haul port

/-- R95; R90 has the response say why a position is PENDING (its place: log 19). -/
def hamdRule (port : Port) (haul : Nat) (c : HaulContent) (s : State) : Answer :=
  let t := s.take c
  need (haulNumberOk haul && s.contentOk c) .badParam s <|
  s.withHold port (.haul haul) fun s =>
    match s.log.haul haul with
    | none => refuse s .noRecord
    | some h =>
      need (!s.haulInFlight h) .inFlight s <|
      need (s.log.speciesFit t.species) .speciesFull s <|
        accept (s.amendHaul port h t) fun u =>
          (u.log.haul haul).elim [] emitHaul ++ emitOpt u8 (s.pendingReason t.pos) ++
          emitOpt (fun (r : OpenReport) => u16 r.report ++ u16 r.msg ++ emitList (r.hauls.map u16)) (s.withdrawnBy h)

/-- R95. -/
def execHamd (port : Port) (haul : Nat) (content : HaulContent) (s : State) : Host.Outcome State Fault Refusal :=
  command port .hamd (Instr.paramSize (.hamd port haul content)) (hamdRule port haul content) s

/-! ## HDEL, TRIP, TOTL (R98 to R100) -/

/-- R98: acceptance. -/
def State.deleteHaul (s : State) (port : Port) (h : Haul) : State :=
  ((({ s with log := (s.log.moved [] h.species).without h.number }).loseHaul h.number).clearHold port).raiseOthers .haul port

/-- R98. -/
def hdelRule (port : Port) (haul : Nat) (s : State) : Answer :=
  need (haulNumberOk haul) .badParam s <|
  s.withHold port (.haul haul) fun s =>
    match s.log.haul haul with
    | none => refuse s .noRecord
    | some h =>
      need (decide (h.state = .unreported) && !h.cor) .wrongState s <| accept (s.deleteHaul port h) fun _ => emitHaul h

/-- R98. -/
def execHdel (port : Port) (haul : Nat) (s : State) : Host.Outcome State Fault Refusal :=
  command port .hdel (Instr.paramSize (.hdel port haul)) (hdelRule port haul) s

def HoldRef.isHaul : HoldRef → Bool
  | .haul _ => true
  | .channel _ | .window _ => false

/-- R99: acceptance. -/
def State.newTrip (s : State) (port : Port) (number : Nat) : State :=
  ({ s with log := { s.log with hauls := [], totals := [], next := some 1 },
            ident := { s.ident with trip := number, nextReport := 1 } }.loseHolds HoldRef.isHaul).raiseOthers .haul port

/-- R99. -/
def tripRule (port : Port) (number : Nat) (s : State) : Answer :=
  need (decide (number ≤ 999)) .badParam s <|
  need (s.log.hauls.all fun h => decide (h.state = .reported)) .openHauls s <|
    accept (s.newTrip port number) fun _ => u16 number ++ u8 s.log.hauls.length

/-- R99. -/
def execTrip (port : Port) (number : Nat) (s : State) : Host.Outcome State Fault Refusal :=
  command port .trip (Instr.paramSize (.trip port number)) (tripRule port number) s

/-- The number of hauls in a state. -/
def HaulLog.inState (l : HaulLog) (st : HaulState) : Nat := l.hauls.countP fun h => decide (h.state = st)

/-- R100. -/
def State.totalsData (s : State) (start : Nat) : List Byte :=
  let l := s.log
  u16 s.ident.trip ++ u16 s.ident.nextReport ++ emitOpt u16 l.next ++ u8 (l.inState .unreported) ++
  u8 (l.inState .reporting) ++ u8 (l.inState .reported) ++ u8 (l.hauls.countP (·.cor)) ++ u8 l.totals.length ++
  emitList (((l.totals.drop start).take 16).map fun t => emitText t.code ++ u32 t.total ++ u32 t.carried) ++
  u8 l.reports.length

/-- R100. -/
def totlRule (start : Nat) (s : State) : Answer :=
  need (decide (start ≤ 31)) .badParam s <| accept s fun t => t.totalsData start

/-- R100. -/
def execTotl (port : Port) (start : Nat) (s : State) : Host.Outcome State Fault Refusal :=
  command port .totl (Instr.paramSize (.totl port start)) (totlRule start) s

/-! ## CREP (R102 to R104) -/

/-- A line with its line end. -/
def line (fields : List Text) : Text := spaced fields ++ [0x0A#8]

/-- R103: day, hour and minute in 6 digits. -/
def dayTime (r : Reading) : Text := digits 2 r.day ++ digits 2 r.hour ++ digits 2 r.minute

/-- R103: the header line. -/
def State.reportHeader (s : State) (report : Nat) : Text :=
  let r := s.time.reading
  line ([chars ['C', 'A', 'T', 'C', 'H'], s.ident.vessel, chars ['T', 'R', 'I', 'P'], decimal s.ident.trip,
         chars ['R', 'E', 'P'], decimal report,
         digits 4 r.year ++ chars ['-'] ++ digits 2 r.month ++ chars ['-'] ++ digits 2 r.day,
         digits 2 r.hour ++ digits 2 r.minute ++ chars ['Z']] ++
        if s.time.state = .locked then [] else [chars ['A', 'P', 'P', 'R', 'O', 'X']])

/-- R103: a haul's position as printed. -/
def State.printedPosition (s : State) (p : HaulPosition) : Text :=
  match p with
  | .present lat lon _ => positionText lat lon
  | .pending =>
    if s.positionStale = some false then positionText s.position.lat s.position.lon
    else chars ['N', 'O', 'P', 'O', 'S']
  | .absent => chars ['N', 'O', 'P', 'O', 'S']

/-- R103: a haul line. -/
def State.haulLine (s : State) (h : Haul) : Text :=
  line ((if h.cor then [chars ['C', 'O', 'R']] else []) ++
        [chars ['H'] ++ decimal h.number, dayTime h.first.reading ++ chars ['-'] ++ dayTime h.last.reading,
         s.printedPosition h.pos, [h.gear]] ++
        h.species.map fun p => p.1 ++ chars ['/'] ++ decimal p.2)

/-- R103: a totals line. -/
def totalLine (t : SpeciesTotal) : Text := line [chars ['T', 'O', 'T'], t.code, decimal t.total]

/-- R102: the hauls a report takes. -/
def HaulLog.reportHauls (l : HaulLog) : List Haul := (l.hauls.filter fun h => decide (h.state = .unreported)).take 24

/-- R103: the report body. -/
def State.reportBody (s : State) : Text :=
  s.reportHeader s.ident.nextReport ++ (s.log.reportHauls.map s.haulLine).flatten ++ (s.log.totals.map totalLine).flatten

/-- R104: acceptance, from the store with the room made; with the slot taken. -/
def State.makeReport (s : State) (port : Port) (dest : Text) (st : Store) : State × Nat :=
  let body := s.reportBody
  let numbers := s.log.reportHauls.map (·.number)
  let report := s.ident.nextReport
  let msg := s.ident.nextMsg
  let taken := st.takePages (pagesFor body.length)
  let o : Outbound := { newDraft .catch_ dest with state := .queued, hauls := numbers, text := body, pages := taken.1 }
  let made := taken.2.create { origin := some port, created := s.stamp, body := .outbound o }
  let s := ({ s with store := made.2 }.lowTest).enqueue made.1
  let log := { s.log with
    hauls := s.log.hauls.map fun (h : Haul) =>
      if h.number ∈ numbers then { h with state := .reporting, report := some report } else h,
    reports := s.log.reports ++ [⟨report, made.1, msg, numbers⟩] }
  ({ s with log := log, ident := { s.ident with nextReport := nextReportNumber report } }.raiseOthers .haul port, made.1)

/-- R102. -/
def crepRule (port : Port) (dest : Text) (s : State) : Answer :=
  let body := s.reportBody
  need (isStation dest) .badParam s <|
  need (decide (s.ident.vessel ≠ [])) .wrongState s <|
  need (!s.log.reportHauls.isEmpty) .wrongState s <|
  need (decide (s.queue.entries.length < Config.queueMax)) .queueFull s <|
  need (s.store.request s.clock 1 0).isSome .slotsFull s <|
  match s.store.request s.clock 1 (pagesFor body.length) with
  | none => refuse s .storeFull
  | some st =>
    let made := s.makeReport port (foldText dest) st
    accept made.1 fun _ =>
      u8 made.2 ++ u16 s.ident.nextMsg ++ u16 s.ident.nextReport ++
      emitList (s.log.reportHauls.map fun h => u16 h.number) ++ u16 body.length

/-- R102. -/
def execCrep (port : Port) (dest : Text) (s : State) : Host.Outcome State Fault Refusal :=
  command port .crep (Instr.paramSize (.crep port dest)) (crepRule port dest) s

end Sys2Proof.Machine
end

