-- ==== Sys2Proof/Machine/ConsoleQueue.lean ====
section
/-! DEFINITION. Commands on the outbound queue (R108 to R111). -/
namespace Sys2Proof.Machine

/-- The position of an entry in the queue, 1 at the head. -/
def State.queuePosition (s : State) (slot : Nat) : Nat := (indexIn slot s.queue.entries).elim 0 (· + 1)

/-- R108: test 4, of origin and of class. -/
def State.mayQueue (s : State) (port : Port) (r : Record) (o : Outbound) : Bool :=
  decide (r.origin = some port) && !(decide (o.cls = .urgent) && decide ((s.port port).role = .catch_))

/-- R108. -/
def dqueRule (port : Port) (slot : Nat) (s : State) : Answer :=
  s.onRecord slot true fun r =>
    match r.body with
    | .outbound o =>
      need (decide (o.state = .draft)) .wrongState s <|
      need (s.mayQueue port r o) .role s <|
      need (decide (o.text ≠ [])) .wrongState s <|
      need (decide (s.queue.entries.length < Config.queueMax)) .queueFull s <|
        let t := s.enqueue slot
        accept t fun _ => u16 s.ident.nextMsg ++ u16 o.streamLength ++ u8 (t.queuePosition slot)
    | .inbound _ | .bulletin _ => refuse s .wrongState

/-- R108. -/
def execDque (port : Port) (slot : Nat) (s : State) : Host.Outcome State Fault Refusal :=
  command port .dque (Instr.paramSize (.dque port slot)) (dqueRule port slot) s

/-- R109: acceptance. -/
def State.expediteEntry (s : State) (slot : Nat) (o : Outbound) : State :=
  let s := s.expedite slot
  if o.retry.isSome then (s.modOutbound slot fun o => { o with retry := none }).trafficWaiting else s

/-- R109. -/
def qexpRule (slot : Nat) (s : State) : Answer :=
  s.onRecord slot true fun r =>
    match r.body with
    | .outbound o =>
      need (decide (o.state ≠ .sending)) .inFlight s <|
      need (decide (o.state = .queued)) .wrongState s <|
        let t := s.expediteEntry slot o
        accept t fun _ => u8 (t.queuePosition slot)
    | .inbound _ | .bulletin _ => refuse s .wrongState

/-- R109. -/
def execQexp (port : Port) (slot : Nat) (s : State) : Host.Outcome State Fault Refusal :=
  command port .qexp (Instr.paramSize (.qexp port slot)) (qexpRule slot) s

/-- R110: an OUTBOUND record in QUEUED, SENDING or FAILED. -/
def Outbound.inTraffic (o : Outbound) : Bool :=
  decide (o.state = .queued) || decide (o.state = .sending) || decide (o.state = .failed)

/-- R110: the record is SENDING, or QUEUED with a resume point above 0. -/
def Outbound.carried (o : Outbound) : Bool :=
  decide (o.state = .sending) || (decide (o.state = .queued) && decide (0 < o.resume))

/-- R110: acceptance. -/
def State.withdraw (s : State) (slot : Nat) (o : Outbound) : State :=
  let s := s.leaveQueue slot
  if o.isReport then { s.reportOutcome slot .withdrawn with store := s.store.delete .master slot }.lowTest
  else s.modOutbound slot fun o => { o with state := .draft, retry := none, failure := none }

/-- R110: the response says whether the record was deleted. -/
def qwdrRule (port : Port) (slot : Nat) (s : State) : Answer :=
  s.onRecord slot true fun r =>
    need (isRadio (s.port port).role || decide (r.origin = some port)) .role s <|
    match r.body with
    | .outbound o =>
      need o.inTraffic .wrongState s <|
      need (!o.carried) .inFlight s <| accept (s.withdraw slot o) fun _ => emitFlag o.isReport
    | .inbound _ | .bulletin _ => refuse s .wrongState

/-- R110. -/
def execQwdr (port : Port) (slot : Nat) (s : State) : Host.Outcome State Fault Refusal :=
  command port .qwdr (Instr.paramSize (.qwdr port slot)) (qwdrRule port slot) s

/-- R111: the report number of a catch report in the queue. -/
def HaulLog.reportNumber (l : HaulLog) (slot : Nat) : Nat :=
  (l.reports.find? fun r => decide (r.slot = slot)).elim 0 (·.report)

/-- R111: one entry. Whether it is a catch report is given by the presence byte of its report number, and the message
number stands behind a presence byte, though an entry always has one: the model's choices (log 19). -/
def State.queueEntry (s : State) (slot : Nat) : List Byte :=
  match s.outbound slot with
  | none => u8 slot
  | some o =>
    u8 slot ++ u8 o.state.code ++ u8 o.cls.code ++ emitText o.dest ++ emitOpt u16 o.msg ++ u16 o.resume ++
    u16 o.streamLength ++ u8 o.attempts ++ emitOpt u16 (s.retryLeft o) ++
    emitOpt u16 (if o.isReport then some (s.log.reportNumber slot) else none)

/-- R111. -/
def State.queueData (s : State) (position : Nat) : List Byte :=
  let l := s.queue.entries
  emitList (cutTo 3 (((l.drop (position - 1)).take 12).map s.queueEntry)) ++ u8 l.length ++ u8 (l.countP s.due) ++
  emitFlag s.queue.request.isSome

/-- R111. -/
def qlstRule (position : Nat) (s : State) : Answer :=
  need (decide (1 ≤ position) && decide (position ≤ 48)) .badParam s <| accept s fun t => t.queueData position

/-- R111. -/
def execQlst (port : Port) (position : Nat) (s : State) : Host.Outcome State Fault Refusal :=
  command port .qlst (Instr.paramSize (.qlst port position)) (qlstRule position) s

end Sys2Proof.Machine
end

