-- ==== Sys2Proof/Machine/ConsoleSchedule.lean ====
section
/-! DEFINITION. Commands on the schedule (R145, R146). -/
namespace Sys2Proof.Machine

def WindowState.code : WindowState → Nat
  | .idle => 0
  | .due => 1
  | .active => 2

/-- R144: every field of a window. An occurrence outside the clock's range shows years 1999 or 2100 (log 44). -/
def emitWindow (w : Window) : List Byte :=
  emitFlag w.enabled ++ u8 w.channel ++ u16 w.start ++ u8 w.duration ++ u8 w.every ++ emitFlag w.mandatory ++
  emitBytes w.subjects ++ emitList (w.areas.map u8) ++ u8 w.state.code ++ u8 w.missed ++
  emitOpt (fun (p : Int × Int) => emitReading (readingAt p.1)) w.span ++
  emitOpt (fun (p : Int × Int) => emitReading (readingAt p.2)) w.span

/-- R145. -/
def State.windowData (s : State) (index : Nat) : List Byte :=
  let w := s.window index
  emitWindow w ++ emitOpt (fun i => emitReading (readingAt i)) (w.nextStart s.time.state s.clock)

/-- R145. -/
def skrdRule (port : Port) (index : Nat) (hold : Bool) (s : State) : Answer :=
  need (decide (index ≤ 15)) .badParam s <|
    accept (s.holdIf port hold (.window index)) fun t => t.windowData index

/-- R145. -/
def execSkrd (port : Port) (index : Nat) (hold : Bool) (s : State) : Host.Outcome State Fault Refusal :=
  command port .skrd (Instr.paramSize (.skrd port index hold)) (skrdRule port index hold) s

/-- R144: the subject letters a window may name. -/
def scheduleSubjects : Text := chars ['F', 'I', 'N']

/-- R144, R146: the ranges of the fields. -/
def windowFieldsOk (f : WindowFields) : Bool :=
  decide (f.channel ≤ 23) && decide (f.start / 100 ≤ 23) && decide (f.start % 100 ≤ 59) &&
  decide (1 ≤ f.duration) && decide (f.duration ≤ 60) && decide (f.every ∈ [1, 2, 3, 4, 6, 8, 12, 24]) &&
  f.subjects.all (fun c => decide (foldChar c ∈ scheduleSubjects)) &&
  decide (1 ≤ f.areas.length) && decide (f.areas.length ≤ 4) &&
  f.areas.all (fun a => decide (1 ≤ a) && decide (a ≤ 40)) && distinct f.areas

/-- R146: test 1. -/
def State.windowOk (s : State) (index : Nat) (f : WindowFields) : Bool :=
  decide (index ≤ 15) && windowFieldsOk f &&
  (!f.enabled || ((s.channel f.channel).valid && decide ((s.channel f.channel).role = .broadcast)))

/-- R146: the window as written, IDLE. The subject set stands in the order F, I, N. -/
def writtenWindow (f : WindowFields) : Window :=
  { enabled := f.enabled, channel := f.channel, start := f.start, duration := f.duration, every := f.every,
    mandatory := f.mandatory, subjects := scheduleSubjects.filter fun c => decide (c ∈ f.subjects.map foldChar),
    areas := f.areas, state := .idle, missed := 0, span := none }

/-- R146: acceptance. -/
def State.rewriteWindow (s : State) (port : Port) (index : Nat) (f : WindowFields) : State :=
  let s := if s.bull.claim = some index then s.bullYield else s
  ((s.modWindow index fun _ => (writtenWindow f).dueTest s.time.state s.clock).writtenBy port (.window index)).bullReview

/-- R146. -/
def skwrRule (port : Port) (index : Nat) (f : WindowFields) (s : State) : Answer :=
  need (s.windowOk index f) .badParam s <|
  s.withHold port (.window index) fun s =>
    need (decide ((s.window index).state ≠ .active)) .inUse s <|
      accept (s.rewriteWindow port index f) fun t => emitWindow (t.window index)

/-- R146. -/
def execSkwr (port : Port) (index : Nat) (fields : WindowFields) (s : State) : Host.Outcome State Fault Refusal :=
  command port .skwr (Instr.paramSize (.skwr port index fields)) (skwrRule port index fields) s

end Sys2Proof.Machine
end

