-- ==== Sys2Proof/Machine/ConsolePort.lean ====
section
/-! DEFINITION. Commands on the port itself, the status lines and the alarm (R186, R187, R189). -/
namespace Sys2Proof.Machine

/-! ## NOTE, MASK, PRST -/

/-- R186. -/
def noteRule (port : Port) (s : State) : Answer :=
  accept (s.setPort port { s.port port with noticed := 0 }) fun _ => emitNotices (s.port port).noticed

/-- R186. -/
def execNote (port : Port) (s : State) : Host.Outcome State Fault Refusal :=
  command port .note (Instr.paramSize (.note port)) (noteRule port) s

/-- R186. -/
def maskRule (port : Port) (classes : BitVec 16) (s : State) : Answer :=
  need (decide (classes.toNat < 16384)) .badParam s <|
    accept (s.setPort port { s.port port with mask := classes }) fun t =>
      emitNotices (t.port port).mask ++ emitNotices (t.port port).noticed

/-- R186. -/
def execMask (port : Port) (classes : BitVec 16) (s : State) : Host.Outcome State Fault Refusal :=
  command port .mask (Instr.paramSize (.mask port classes)) (maskRule port classes) s

/-- R187: the port restarted, its role kept. -/
def prstRule (port : Port) (s : State) : Answer :=
  accept (s.setPort port (PortCtx.restarted (s.port port).role)) fun _ => []

/-- R187. -/
def execPrst (port : Port) (s : State) : Host.Outcome State Fault Refusal :=
  command port .prst (Instr.paramSize (.prst port)) (prstRule port) s

/-! ## STAT -/

def Role.code : Role → Nat
  | .none => 0
  | .bridge => 1
  | .radio => 2
  | .catch_ => 3

/-- R179: a record reference: haul number, channel entry index or window index. -/
def emitRef : HoldRef → List Byte
  | .haul n => u8 0 ++ u16 n
  | .channel i => u8 1 ++ u8 i
  | .window i => u8 2 ++ u8 i

/-- R187: the port's role, its hold and its letter. -/
def State.portData (s : State) (p : Port) : List Byte :=
  u8 (s.port p).role.code ++ emitOpt (fun (h : Hold) => emitRef h.ref ++ emitFlag h.lost) (s.port p).hold ++ [portLetter p]

/-- R187: clock, time state, reference counts. -/
def State.timeLine (s : State) : List Byte :=
  emitReading s.time.reading ++ u8 s.time.state.code ++ u8 s.time.good ++ u8 s.time.bad

def ScanState.code : ScanState → Nat
  | .idle => 0
  | .claiming => 1
  | .dwelling => 2

def WatchState.code : WatchState → Nat
  | .idle => 0
  | .settling => 1
  | .dwelling => 2
  | .held => 3

/-- R47: the receive-path line. -/
def State.receiveLine (s : State) : List Byte :=
  u8 s.watch.state.code ++ emitOpt u8 s.watch.entry ++ emitFlag s.watch.blanked ++ emitFlag s.trx.tracker.locked ++
  emitFlag s.watchPath.tracker.locked ++ u8 s.scanner.state.code ++ emitOpt u8 s.scanner.current ++
  u8 s.trx.tracker.longRuns ++ u8 s.watchPath.tracker.longRuns ++ u8 (s.channels.countP (·.poor))

def ArbState.code : ArbState → Nat
  | .free => 0
  | .granted => 1
  | .releasing => 2

def Phase.code : Phase → Nat
  | .rx => 0
  | .tx => 1
  | .settling => 2

def KeyState.code : KeyState → Nat
  | .quiet => 0
  | .rising => 1
  | .keyed => 2
  | .falling => 3
  | .stuck => 4

/-- R50, R68: the grant record; the release-request time in seconds and milliseconds, and the
milliseconds left on the release limit (log 9, log 19). -/
def State.grantData (s : State) (g : Grant) : List Byte :=
  u8 g.holder.code ++ emitOpt u8 g.channel ++ u8 g.phase.code ++ emitFlag g.request.isSome ++
  emitOpt (fun t => u32 (t / 1000) ++ u16 (t % 1000) ++ u16 (Config.releaseLimitMs - (s.nowMs - t))) g.request

/-- R48: the claimants in their order. -/
def claimants : List Claimant := [.distress, .bulletinMandatory, .link, .tune, .bulletinOrdinary, .scan]

/-- R68: the arbiter line. -/
def State.arbiterLine (s : State) : List Byte :=
  u8 s.arb.state.code ++ emitOpt s.grantData s.arb.grant ++
  emitList ((claimants.filter fun c => decide (c ∈ s.arb.waiting)).map fun c => u8 c.code) ++
  emitOpt (fun (t : TuneClaim) => u8 t.entry ++ u8 t.duration) s.arb.tune ++ u8 s.monitor.code ++ emitFaultRecord s.fault

/-- R76, R77: the store line. -/
def State.storeLine (s : State) : List Byte :=
  u16 s.store.evicted ++ u16 s.store.expired ++ u16 s.store.deleted ++ emitFlag s.store.low ++ u8 s.store.freeSlots ++
  u16 s.store.free.length

def InMode.code : InMode → Nat
  | .header => 0
  | .body => 1
  | .raw => 2

/-- R119: the queue line. -/
def State.queueLine (s : State) : List Byte :=
  u16 s.inbound.discarded ++ u8 s.inbound.mode.code ++ emitOpt u8 s.inbound.current

def LinkState.code : LinkState → Nat
  | .idle => 0
  | .waitGrant => 1
  | .settling => 2
  | .calling => 3
  | .sendBurst => 4
  | .awaitReply => 5
  | .clearing => 6

/-- R131: an owed receipt: message number and answer, Q or N. -/
def emitOwed (p : Nat × Bool) : List Byte := u16 p.1 ++ [if p.2 then 0x51#8 else 0x4E#8]

/-- R124: the link line. -/
def State.linkLine (s : State) : List Byte :=
  let l := s.link
  u8 l.state.code ++ emitOpt emitText l.station ++ emitOpt u8 l.channel ++ u8 l.index ++ u8 l.callTry ++ u8 l.sendNext ++
  u8 l.recvNext ++ u8 l.outstanding.length ++ emitOpt u8 l.current ++
  emitOpt u16 ((l.current.bind s.outbound).map (·.resume)) ++ u8 l.silent ++ emitList (l.owed.map emitOwed) ++
  emitList (l.setAside.map u8)

/-- R149: the engine's claim: none, 0 waiting or 1 granted. -/
def State.claimStage (s : State) : Option Nat :=
  s.bull.claim.map fun w => if s.holder = some (s.window w).claimant then 1 else 0

def Reception.code : Reception → Nat
  | .hunt => 0
  | .open_ _ _ => 1

/-- R159: an open part: key, part number, next block expected, blocks taken, damaged count. -/
def State.partData (s : State) : List Byte :=
  let blocks : Option (Nat × Nat) := match s.bull.recv with
    | some (.open_ e n) => some (e, n)
    | some .hunt | none => none
  let part := s.store.part.bind fun p => blocks.map fun b => (p, b)
  emitOpt (fun (x : OpenPart × (Nat × Nat)) => emitKey x.1.key ++ u8 x.1.number ++ u8 x.2.1 ++ u8 x.2.2 ++ u16 x.1.damaged) part

/-- R159: the windows that are DUE or ACTIVE, with their states. -/
def State.liveWindows (s : State) : List (List Byte) :=
  ((List.range s.windows.length).filter fun i => decide ((s.window i).state ≠ .idle)).map fun i =>
    u8 i ++ u8 (s.window i).state.code

/-- R159: the bulletin line. -/
def State.bulletinLine (s : State) : List Byte :=
  let b := s.bull
  u16 b.stored ++ u16 b.duplicate ++ u16 b.filtered ++ u16 b.inferior ++ u16 b.dropped ++ u16 b.empty ++ u16 b.overlong ++
  emitOpt u8 s.claimStage ++ emitOpt u8 b.claim ++ emitOpt (fun (r : Reception) => u8 r.code) b.recv ++ s.partData ++
  emitList s.liveWindows

def CycleKind.code : CycleKind → Nat
  | .alert => 0
  | .test => 1
  | .cancel => 2

def CyclePhase.code : CyclePhase → Nat
  | .waitGrant => 0
  | .settling => 1
  | .sending => 2

/-- R167: END, or the kind of a cycle to begin next. -/
def PendingAction.code : PendingAction → Nat
  | .end_ => 0
  | .cycle k => 1 + k.code

/-- R167: the cycle record. The position in the channel list counts from 0: the model's choice, log 47. -/
def emitCycle (c : Cycle) : List Byte :=
  u8 c.kind.code ++ emitList (c.channels.map u8) ++ u8 c.pos ++ u8 c.phase.code ++
  emitOpt (fun (a : PendingAction) => u8 a.code) c.action

/-- R177: the seconds left of the silence period. -/
def State.silenceLeft (s : State) : Option Nat :=
  if s.silence.running then some (Config.silenceSec - s.since s.silence.since) else none

/-- R160: the distress line. -/
def State.distressLine (s : State) : List Byte :=
  let o := s.own
  u8 o.state.code ++ u8 o.number ++ [o.nature] ++ u8 o.cycles ++ emitFlag o.noChannel ++ emitOpt emitFlag o.ret ++
  emitOpt emitText o.ackCoast ++ emitOpt emitText o.testCoast ++ emitOpt emitCycle s.cycle ++ emitFlag s.silence.running ++
  emitOpt emitText s.silence.coast ++ emitOpt u16 s.silenceLeft ++ u8 s.heard.length ++ u16 s.heardCounts.malformed ++
  u16 s.heardCounts.tests ++ u16 s.heardCounts.overflow

/-- R187: the haul log line. The open report entries are given by their number: the model's choice, log 46. -/
def State.haulLogLine (s : State) : List Byte :=
  u8 (s.log.inState .unreported) ++ u8 (s.log.inState .reporting) ++ u8 (s.log.inState .reported) ++
  u8 s.log.reports.length ++ emitOpt u16 s.log.next

def Cause.code : Cause → Nat
  | .distressHeard => 0
  | .ownAlert => 1
  | .fault => 2
  | .warning => 3

/-- R188, R189: the four causes' flags. -/
def Alarm.flagData (a : Alarm) : List Byte :=
  [Cause.distressHeard, .ownAlert, .fault, .warning].flatMap fun c =>
    emitFlag (a.flags c).active ++ emitFlag (a.flags c).silenced

/-- R187: the alarm line; a cadence that is off is absent. -/
def State.alarmLine (s : State) : List Byte :=
  s.alarm.flagData ++ emitOpt (fun (c : Cause) => u8 c.code) s.alarm.running ++
  emitOpt (fun (c : Cause) => u8 c.code) s.alarm.next

/-- R187: the lines in their order. -/
def State.statLine (s : State) (n : Nat) : List Byte :=
  match n with
  | 0 => s.timeLine
  | 1 => s.receiveLine
  | 2 => s.arbiterLine
  | 3 => s.storeLine
  | 4 => s.queueLine
  | 5 => s.linkLine
  | 6 => s.bulletinLine
  | 7 => s.distressLine
  | 8 => s.haulLogLine
  | _ => s.alarmLine

/-- R187. -/
def statRule (port : Port) (line : Nat) (s : State) : Answer :=
  need (decide (line ≤ 9)) .badParam s <| accept s fun t => t.portData port ++ t.statLine line

/-- R187. -/
def execStat (port : Port) (line : Nat) (s : State) : Host.Outcome State Fault Refusal :=
  command port .stat (Instr.paramSize (.stat port line)) (statRule port line) s

/-! ## ASIL -/

/-- R189: a cause active at the command is silenced. -/
def CauseFlags.hush (f : CauseFlags) : CauseFlags := if f.active then { f with silenced := true } else f

/-- R189: WARNING, a one-shot cause, becomes inactive, its silenced flag with it (R188). -/
def Alarm.hushed (a : Alarm) : Alarm :=
  { a with distressHeard := a.distressHeard.hush, ownAlert := a.ownAlert.hush, fault := a.fault.hush,
           warning := CauseFlags.off }.update

/-- R189. -/
def asilRule (s : State) : Answer := accept { s with alarm := s.alarm.hushed } fun t => t.alarm.flagData

/-- R189. -/
def execAsil (port : Port) (s : State) : Host.Outcome State Fault Refusal :=
  command port .asil (Instr.paramSize (.asil port)) asilRule s

end Sys2Proof.Machine
end

