-- ==== Sys2Proof/Machine/Radio.lean ====
section
/-! DEFINITION. Steps of the transceiver, the key monitor, the scanner, the level sampler and the watch
receiver (R14, R41 to R46, R54, R59 to R61, R67). -/
namespace Sys2Proof.Machine

/-- A step of a block outside the retained domain: nothing while the part is stopped (R15, R17). -/
def State.whileRunning (s : State) (act : State → State) : Host.Outcome State Fault Refusal :=
  .next (if s.running then (act s).settle else s)

/-- R59: the release limit runs only in RELEASING. -/
def State.releaseLimitEnd (s : State) : State := if s.arb.state = .releasing then s.revoke else s

/-- R59. -/
def execRevoke (s : State) : Host.Outcome State Fault Refusal := s.whileRunning State.releaseLimitEnd

/-- R54: the end of the settle. -/
def State.settleEnd (s : State) : State :=
  match s.arb.grant with
  | some g => if g.phase = .settling then (s.setPhase .rx).post (.settled g.holder) else s
  | none => s

/-- R54. -/
def execSettleEnd (s : State) : Host.Outcome State Fault Refusal := s.whileRunning State.settleEnd

/-- The transmit path is sending: it has symbols, and the key assertion is not held back (R14, R55). -/
def State.sending (s : State) : Bool :=
  !s.tx.list.isEmpty && !s.tx.heldBack && decide (s.phase = some .tx)

/-- R2, R14: the last symbol ends. Symbols still before it are sent first (log 3), and the units still to come pass,
each with its shift (log 22). -/
def State.transmissionEnd (s : State) : State :=
  if s.sending then
    (s.shifts (s.tx.unitsLeft ++ (s.tx.list.drop 1).flatMap spaceUnits)).completePath (s.tx.sent + s.tx.list.length)
  else s

/-- R14. -/
def execTransmissionCompleted (s : State) : Host.Outcome State Fault Refusal := s.whileRunning State.transmissionEnd

/-- R2, R14: a symbol that is not the last ends: its units still to come pass, each with its shift (log 22), and the
first unit of the next symbol is on air. -/
def State.symbolEnd (s : State) : State :=
  if s.sending = true ∧ 2 ≤ s.tx.list.length then
    { s with tx := s.tx.advance }.shifts (s.tx.unitsLeft ++ [s.tx.advance.spaceUnit])
  else s

/-- R2, R14: a unit that is not the last of the symbol on air ends, and the next one shifts the tuning word. It is what
a step does on an empty queue (log 4, log 22). -/
def State.unitEnd (s : State) : State :=
  if s.running = true ∧ s.sending = true ∧ s.tx.unit < 7 then
    let t := { s.tx with unit := s.tx.unit + 1 }
    { s with tx := t }.shiftTo t.spaceUnit
  else s

/-- R14. -/
def execSymbolSent (s : State) : Host.Outcome State Fault Refusal := s.whileRunning State.symbolEnd

/-- R60: KSNS is followed even while the part is stopped; the monitor is not (log 28). -/
def State.senseTo (s : State) (on : Bool) : State := { s with pins := { s.pins with ksns := on } }

/-- R60. -/
def execKeySenseRise (s : State) : Host.Outcome State Fault Refusal :=
  if s.pins.ksns then .next s
  else if s.running then .next (s.senseTo true).senseRise.settle
  else .next (s.senseTo true)

/-- R60. -/
def execKeySenseFall (s : State) : Host.Outcome State Fault Refusal :=
  if s.pins.ksns then
    if s.running then .next (s.senseTo false).senseFall.settle else .next (s.senseTo false)
  else .next s

/-- R60, R61: the response wait runs out. -/
def State.responseWaitEnd (s : State) : State := if s.monitor = .rising then s.keyFault .noResponse else s

/-- R61. -/
def execKeyNoResponse (s : State) : Host.Outcome State Fault Refusal := s.whileRunning State.responseWaitEnd

/-- R60, R61: the drop wait runs out. -/
def State.dropWaitEnd (s : State) : State :=
  if s.monitor = .falling then { s with monitor := .stuck }.keyFault .stuck else s

/-- R61. -/
def execKeyStuck (s : State) : Host.Outcome State Fault Refusal := s.whileRunning State.dropWaitEnd

/-- R67: the carrier interval runs from the key assertion. -/
def State.carrierEnd (s : State) : State :=
  if s.holder = some .tune ∧ s.phase = some .tx ∧ s.tx.heldBack = false then s.release .tune else s

/-- R67. -/
def execCarrierEnd (s : State) : Host.Outcome State Fault Refusal := s.whileRunning State.carrierEnd

/-- R43: the scheduled end of a dwell, or of its extension. -/
def State.dwellEnd (s : State) : State := if s.scanner.state = .dwelling then s.scanScheduledEnd else s

/-- R43. -/
def execScanDwellEnd (s : State) : Host.Outcome State Fault Refusal := s.whileRunning State.dwellEnd

/-- R41: a conversion's cause calls for the below-floor score event. -/
def LevelCause.quietDwell : LevelCause → Bool
  | .scanDwell phasing => !phasing
  | .frameClose | .watchDwell => false

/-- R41: the result of a conversion is taken by the entry it names. -/
def State.takeLevel (s : State) (c : Conversion) (result : Byte) : State :=
  let e := s.channel c.entry
  if c.void = true ∨ e.valid = false then s
  else
    let s := s.modChannel c.entry fun e =>
      { e with last := some result.toNat, smooth := some (smoothed e.smooth result.toNat) }
    if c.cause.quietDwell = true ∧ result.toNat < e.floor then s.score c.entry (-1) else s

/-- R41: a conversion ends. -/
def State.conversionEnd (s : State) (result : Byte) : State :=
  match s.sampler with
  | some c => { s with sampler := none }.takeLevel c result
  | none => s

/-- R41. -/
def execLevelConversionEnd (result : Byte) (s : State) : Host.Outcome State Fault Refusal :=
  s.whileRunning fun s => s.conversionEnd result

/-- R45: the settle of the watch receiver ends. -/
def State.watchSettleEnd (s : State) : State :=
  if s.watch.state = .settling then { s with watch := { s.watch with state := .dwelling } } else s

/-- R45. -/
def execWatchSettleEnd (s : State) : Host.Outcome State Fault Refusal := s.whileRunning State.watchSettleEnd

/-- R45: the dwell interval runs out in DWELLING or SETTLING. R47: the expiry of an interval that a step has replaced has
no effect (log 51). -/
def State.watchDwellEnd (s : State) : State :=
  if (s.watch.state = .settling ∨ s.watch.state = .dwelling) ∧ s.ranOut s.watch.since Config.watchDwellSec = true
  then s.watchMoveOn else s

/-- R45. -/
def execWatchDwellEnd (s : State) : Host.Outcome State Fault Refusal := s.whileRunning State.watchDwellEnd

/-- R46: the watch hold interval runs out. -/
def State.watchHoldEnd (s : State) : State := if s.watch.state = .held then s.watchMoveOn else s

/-- R46. -/
def execWatchHoldExpiry (s : State) : Host.Outcome State Fault Refusal := s.whileRunning State.watchHoldEnd

end Sys2Proof.Machine
end

