-- ==== Sys2Proof/Machine/Distress.lean ====
section
/-! DEFINITION. Steps of the distress unit (R164, R166, R169, R171, R172). -/
namespace Sys2Proof.Machine

/-- R164: the push-button is followed even while the part is stopped (R164, R178). -/
def State.buttonTo (s : State) (closed : Bool) : State := { s with pins := { s.pins with dbtn := closed } }

/-- R164. -/
def execDistressKeyPress (s : State) : Host.Outcome State Fault Refusal :=
  if s.pins.dbtn then .next s
  else if s.running then .next (s.buttonTo true).keyPress.settle
  else .next (s.buttonTo true)

/-- R164. -/
def execDistressKeyRelease (s : State) : Host.Outcome State Fault Refusal :=
  if s.pins.dbtn then
    if s.running then .next (s.buttonTo false).keyRelease.settle else .next (s.buttonTo false)
  else .next s

/-- R164. -/
def execKeyHoldExpiry (s : State) : Host.Outcome State Fault Refusal := s.whileRunning State.keyHoldExpiry

/-- R169. -/
def execRepeatIntervalExpiry (s : State) : Host.Outcome State Fault Refusal := s.whileRunning State.repeatExpiry

/-- R171. -/
def execCancelWindowExpiry (s : State) : Host.Outcome State Fault Refusal := s.whileRunning State.cancelWindowExpiry

/-- R172. -/
def execCancelRetryExpiry (s : State) : Host.Outcome State Fault Refusal := s.whileRunning State.cancelRetryExpiry

/-- R166. -/
def execTestReplyWaitExpiry (s : State) : Host.Outcome State Fault Refusal := s.whileRunning State.testReplyExpiry

end Sys2Proof.Machine
end

