-- ==== Sys2Proof/Machine/PortEvents.lean ====
section
/-! DEFINITION. Bytes on a port outside command frames (R183). -/
namespace Sys2Proof.Machine

/-- R183: a byte clocked in. In RESPONDING it clocks out a byte of the response, whose last byte is the
step RESPONSE_READ; in READY it belongs to a transfer that is no step yet (log 17). -/
def State.clockByte (s : State) (p : Port) (data : Byte) : State :=
  let c := s.port p
  match c.state with
  | .ready => s
  | .working => s.setOverrun p
  | .responding =>
    s.setPort p { c with
      overrun := c.overrun || decide (data ≠ 0xFF#8),
      response := c.response.map fun r => { r with out := min (r.out + 1) (r.bytes.length - 1) } }

/-- R183. -/
def execOverrun (port : Port) (data : Byte) (s : State) : Host.Outcome State Fault Refusal :=
  s.whileRunning fun s => s.clockByte port data

/-- R183: the last check byte of the response is clocked out. -/
def State.responseRead (s : State) (p : Port) : State :=
  let c := s.port p
  if c.state = .responding then s.setPort p c.drained else s

/-- R183. -/
def execResponseRead (port : Port) (s : State) : Host.Outcome State Fault Refusal :=
  s.whileRunning fun s => s.responseRead port

/-- R183: a transfer released before the last byte; the next one reads the response from its sync byte. -/
def State.transferReleased (s : State) (p : Port) : State :=
  let c := s.port p
  if c.state = .responding then
    s.setPort p { c with response := c.response.map fun r => { r with out := 0 } }
  else s

/-- R183. -/
def execResponseTransferReleased (port : Port) (s : State) : Host.Outcome State Fault Refusal :=
  s.whileRunning fun s => s.transferReleased port

end Sys2Proof.Machine
end

