-- ==== Sys2Proof/Machine/RawFrame.lean ====
section
/-! DEFINITION. A transfer as bytes on a port (R182): frames that are refused, and frames that are not. -/
namespace Sys2Proof.Machine

/-- The meaning of the command a frame carries; a step that is no command has no frame. -/
def runCommand (i : Instr) (s : State) : Host.Outcome State Fault Refusal :=
  match i with
  | .tset port reading => execTset port reading s
  | .tget port => execTget port s
  | .posn port form => execPosn port form s
  | .pget port => execPget port s
  | .ship port vessel home interval => execShip port vessel home interval s
  | .chrd port index hold => execChrd port index hold s
  | .chwr port index fields => execChwr port index fields s
  | .tune port index duration => execTune port index duration s
  | .fack port => execFack port s
  | .fclr port => execFclr port s
  | .dopn port cls dest => execDopn port cls dest s
  | .dapp port slot chars => execDapp port slot chars s
  | .ddis port slot => execDdis port slot s
  | .mred port slot offset count part => execMred port slot offset count part s
  | .list port slot => execList port slot s
  | .mrkr port slot => execMrkr port slot s
  | .mdel port slot => execMdel port slot s
  | .hadd port content => execHadd port content s
  | .hred port haul mode hold => execHred port haul mode hold s
  | .hamd port haul content => execHamd port haul content s
  | .hdel port haul => execHdel port haul s
  | .trip port number => execTrip port number s
  | .totl port start => execTotl port start s
  | .crep port dest => execCrep port dest s
  | .dque port slot => execDque port slot s
  | .qexp port slot => execQexp port slot s
  | .qwdr port slot => execQwdr port slot s
  | .qlst port position => execQlst port position s
  | .skrd port index hold => execSkrd port index hold s
  | .skwr port index fields => execSkwr port index fields s
  | .dalr port nature => execDalr port nature s
  | .dtst port => execDtst port s
  | .dcan port => execDcan port s
  | .dcnf port => execDcnf port s
  | .dcls port => execDcls port s
  | .hack port vessel number => execHack port vessel number s
  | .hlst port position => execHlst port position s
  | .note port => execNote port s
  | .mask port classes => execMask port classes s
  | .stat port line => execStat port line s
  | .prst port => execPrst port s
  | .asil port => execAsil port s
  | _ => .next s

/-- R183: bytes after the last check byte arrive in WORKING (log 20). -/
def State.excess (s : State) (p : Port) (more : Bool) : State := if more then s.setOverrun p else s

/-- R182: a READY port judges a transfer. -/
def takeTransfer (p : Port) (bytes : List Byte) (s : State) : Host.Outcome State Fault Refusal :=
  match judgeTransfer bytes with
  | .badFrame more => .next ((s.excess p more).carryOut p fun s => refuse s .badFrame)
  | .badTag more => .next ((s.excess p more).carryOut p fun s => refuse s .badTag)
  | .command t params more =>
    match parseParams p t params with
    | some i => runCommand i (s.excess p more)
    | none => command p t params.length (fun s => refuse s .badParam) (s.excess p more)

/-- R183: the bytes of a transfer clocked in while the port is not READY. The last byte of a response makes it READY,
and what comes after it in the same transfer is no command and no overrun (log 17). -/
def PortCtx.clockedWith (c : PortCtx) (bytes : List Byte) : List Byte :=
  match c.response with
  | some r => bytes.take r.bytes.length
  | none => bytes

/-- R182, R183: bytes of a transfer, up to the release of SEL, on a port in any of its states. -/
def execBadFrame (port : Port) (bytes : List Byte) (s : State) : Host.Outcome State Fault Refusal :=
  if s.running then
    if (s.port port).state = .ready then takeTransfer port bytes s
    else .next (s.clockedThrough port bytes.length (((s.port port).clockedWith bytes).any fun b => decide (b ≠ 0xFF#8)))
  else .next s

end Sys2Proof.Machine
end

