-- ==== Sys2Proof/Machine/Receive.lean ====
section
/-! DEFINITION. Steps of the two receiver paths (R3, R6, R7, R12, R37 to R39). A row that names what a run
of groups brings about is the groups that bring it about from the state at hand (log 3). -/
namespace Sys2Proof.Machine

/-- Groups taken one by one, each with the hand-offs it causes. -/
def State.feed (s : State) (p : Path) (l : List Byte) : State := l.foldl (fun s u => (s.receive p u).settle) s

/-- R6: the phasing symbols still missing to a run of 4, alternating from the last one. -/
def phasingRest : Nat → Symbol → List Byte
  | 0, _ => []
  | n + 1, sym => unitsOf sym :: phasingRest n (if sym = phaseA then phaseB else phaseA)

/-- R6: the groups that bring the run of a path to 4. -/
def RxPath.phasingGroups (r : RxPath) : List Byte :=
  phasingRest (4 - r.phasing) (if 1 ≤ r.phasing ∧ r.lastPhase = some phaseA then phaseB else phaseA)

/-- R3. -/
def execSymbolGroup (path : Path) (units : Byte) (s : State) : Host.Outcome State Fault Refusal :=
  s.whileRunning fun s => s.receive path units

/-- R37, R38 (log 28). -/
def execLineTransition (path : Path) (error : Int) (units : Nat) (s : State) : Host.Outcome State Fault Refusal :=
  s.whileRunning fun s => s.lineTransition path error units

/-- R38: a transition that fills the history with a mean beyond 2 eighths. -/
def execTrackerPhaseCorrection (path : Path) (error : Int) (units : Nat) (s : State) :
    Host.Outcome State Fault Refusal :=
  s.whileRunning fun s => if (s.path path).tracker.corrects error units then s.lineTransition path error units else s

/-- R6. -/
def execPhasingHeard (path : Path) (s : State) : Host.Outcome State Fault Refusal :=
  s.whileRunning fun s => s.feed path (s.path path).phasingGroups

/-- R7: a TURN is heard only in LOCKED. -/
def execTurnReceived (path : Path) (s : State) : Host.Outcome State Fault Refusal :=
  s.whileRunning fun s => if (s.path path).tracker.locked then s.feed path [unitsOf turnSym] else s

/-- R7: the CLEAR that completes a pair, after the first one if it is still to come. -/
def execClearReceived (path : Path) (s : State) : Host.Outcome State Fault Refusal :=
  s.whileRunning fun s =>
    if (s.path path).tracker.locked then
      s.feed path (List.replicate (if (s.path path).clearPending then 1 else 2) (unitsOf clearSym))
    else s

/-- R39: the weight errors still missing to a run of 4 (log 3). The first three of a run stand in the payload of the DAMAGED
frame, as R10 appends them; the worked reception of chapter 1 shows none (the model's choice, log 14). -/
def execLossOfLock (path : Path) (s : State) : Host.Outcome State Fault Refusal :=
  s.whileRunning fun s =>
    if (s.path path).tracker.locked then s.feed path (List.replicate (4 - (s.path path).tracker.errRun) 0) else s

/-- R12. -/
def execFrameRecord (path : Path) (groups : List Byte) (s : State) : Host.Outcome State Fault Refusal :=
  s.whileRunning fun s => s.feed path groups

end Sys2Proof.Machine
end

