-- ==== Sys2Proof/Machine/Sounder.lean ====
section
/-! DEFINITION. Steps of the alarm sounder (R188). -/
namespace Sys2Proof.Machine

/-- R188: at the end of a period the running cadence takes the next one, on part first. -/
def Alarm.periodEnd (a : Alarm) : Alarm :=
  match a.running with
  | some _ => { a with running := a.next, onPart := a.next.isSome }
  | none => a

/-- R188: the on part of the running cadence ends. -/
def Alarm.onPartEnd (a : Alarm) : Alarm := { a with onPart := false }

/-- R188. -/
def execCadencePeriodEnd (s : State) : Host.Outcome State Fault Refusal :=
  s.whileRunning fun s => { s with alarm := s.alarm.periodEnd }

/-- R188. -/
def execCadenceOnPartEnd (s : State) : Host.Outcome State Fault Refusal :=
  s.whileRunning fun s => { s with alarm := s.alarm.onPartEnd }

end Sys2Proof.Machine
end

