-- ==== Sys2Proof/Machine/Supply.lean ====
section
/-! DEFINITION. The supplies, the marker and the resets (R15 to R18, R39, R45, R68, R86, R144, R178, R179). -/
namespace Sys2Proof.Machine

/-! ## Warm reset (R17) -/

/-- R86: a record in transfer at a warm reset. -/
def Record.warm (r : Record) : Record :=
  match r.body with
  | .outbound o => if o.state = .sending then { r with body := .outbound { o with state := .queued } } else r
  | .inbound i => if i.state = .receiving then { r with body := .inbound { i with state := .incomplete } } else r
  | .bulletin _ => r

/-- R86: records in transfer, the open part record, the low-space watch set to ARMED. -/
def Store.warm (st : Store) : Store :=
  { st with slots := st.slots.map (fun r => r.map Record.warm),
            free := st.free ++ st.part.elim [] (fun (p : OpenPart) => p.pages), part := none, low := false }

/-- R60, R68: the key monitor after a reset. -/
def monitorAfterReset (ksns : Bool) : KeyState := if ksns then .falling else .quiet

/-- R17: every block outside the retained domain at its warm-reset values, and the retained records as
their chapters treat them, before anything is raised. The tuning words are left (R68). -/
def State.warmValues (s : State) (straps : Straps) : State :=
  { s with
    supply := { s.supply with vmain := true, resetHeld := false }
    pins := { s.pins with straps := straps }
    time := { s.time with good := 0, bad := 0, qualified := false, minute := none }
    trx := RxPath.reset
    watchPath := RxPath.reset
    sampler := none
    scanner := Scanner.reset
    watch := { s.watch with state := .idle, entry := none, blanked := false, since := 0 }
    arb := Arbiter.reset
    tuner := { s.tuner with space := false }
    tx := TxPath.reset
    monitor := monitorAfterReset s.pins.ksns
    fault := FaultRecord.reset
    store := s.store.warm
    inbound := InboundSide.reset
    link := Link.reset
    windows := s.windows.map Window.toIdle
    bull := BulletinEngine.reset
    own := { s.own with repeatOn := false, retryOn := false, testWait := false }
    cycle := none
    frameBuf := []
    heardCounts := HeardCounts.reset
    ports := Ports.restarted straps
    alarm := Alarm.reset
    signals := [] }

/-- R188: the causes take their active flags from their owners' state. -/
def State.soundOwners (s : State) : State :=
  let s := if s.heard.any (fun h => !h.acked) then s.alarmActive .distressHeard true else s
  if s.own.state = .active then s.alarmActive .ownAlert true else s

/-- R178: the own alert at a warm reset. -/
def State.warmOwn (s : State) : State :=
  match s.own.state with
  | .none | .acknowledged => s
  | .active => s.beginCycle .alert
  | .cancelPending =>
    let s := s.cancelReturn
    if s.own.state = .active then s.beginCycle .alert else s
  | .cancelling => s.beginCycle .cancel
  | .arming | .testing => (s.setOwn { s.own with armRet := none }).setOwnState .none

/-- R164: a push-button closed when the reset is complete is taken as a press. -/
def State.pressHeld (s : State) : State := if s.pins.dbtn then s.keyPress else s

/-- R21: the expiries held while the part was stopped, in their order. -/
def State.deliverHeld (s : State) : State :=
  s.supply.held.foldl State.takeExpiry { s with supply := { s.supply with held := [] } }

/-- R42, R45, R125, R151, R164: what begins when a reset is complete (log 31). -/
def State.resetComplete (s : State) : State :=
  (((s.bullStart.post .linkTest).pressHeld).watchStepAfter none).post .scannerCheck

/-- R17: a warm reset. -/
def State.warmReset (s : State) (straps : Straps) : State :=
  let s := s.warmValues straps
  let s := if s.time.state = .locked then s.setTimeState .holdover else s
  (s.lowTest.soundOwners.warmOwn.deliverHeld.resetComplete).settle

/-! ## Cold start (R18) -/

/-- R18: cold values everywhere; the pins, the tuning words and the count of their strobes stay as they are. -/
def State.coldValues (s : State) (straps : Straps) : State :=
  { State.reset with
    pins := { s.pins with straps := straps }
    watch := { State.reset.watch with word := s.watch.word }
    tuner := { s.tuner with space := false }
    tstb := s.tstb
    wstb := s.wstb
    monitor := monitorAfterReset s.pins.ksns
    ports := Ports.restarted straps
    freeCount := s.freeCount
    pending := s.pending }

/-- R18: a cold start. -/
def State.coldStart (s : State) (straps : Straps) : State := (s.coldValues straps).resetComplete.settle

/-! ## Steps -/

/-- R15. -/
def execVmainLoss (s : State) : Host.Outcome State Fault Refusal :=
  .next { s with supply := { s.supply with vmain := false, resetHeld := false } }

/-- R16. -/
def execBackupLoss (s : State) : Host.Outcome State Fault Refusal :=
  .next (if s.supply.vmain then s else { s with supply := { s.supply with marker := .invalid, held := [] } })

/-- R17: RESET asserted. -/
def execResetAssert (s : State) : Host.Outcome State Fault Refusal :=
  .next (if s.supply.vmain then { s with supply := { s.supply with resetHeld := true } } else s)

/-- R17. With VMAIN absent and the marker INVALID there is no warm reset. -/
def execWarmReset (straps : Straps) (s : State) : Host.Outcome State Fault Refusal :=
  .next (if s.retained then s.warmReset straps else s)

/-- R18. -/
def execColdStart (straps : Straps) (s : State) : Host.Outcome State Fault Refusal := .next (s.coldStart straps)

end Sys2Proof.Machine
end

