-- ==== Sys2Proof/Machine/Waits.lean ====
section
/-! DEFINITION. The waits of the link engine and of the bulletin engine (R127, R132, R133, R155). -/
namespace Sys2Proof.Machine

/-- R127. -/
def execAnswerWaitExpiry (s : State) : Host.Outcome State Fault Refusal := s.whileRunning State.answerExpiry

/-- R133. -/
def execPhasingWaitExpiry (s : State) : Host.Outcome State Fault Refusal := s.whileRunning State.phasingExpiry

/-- R132. -/
def execTurnWaitExpiry (s : State) : Host.Outcome State Fault Refusal := s.whileRunning State.turnExpiry

/-- R155: the symbol wait runs while a part is open. -/
def execSymbolWaitExpiry (s : State) : Host.Outcome State Fault Refusal := s.whileRunning fun s => s.closePart 32

end Sys2Proof.Machine
end

