-- ==== Sys2Proof/Machine/Dispatch.lean ====
section
/-! DEFINITION. The meaning of each step: one arm per constructor of Instr. -/
namespace Sys2Proof.Machine

def exec (i : Instr) (s : State) : Host.Outcome State Fault Refusal :=
  match i with
  | .vmainLoss => Sys2Proof.Machine.execVmainLoss s
  | .backupLoss => Sys2Proof.Machine.execBackupLoss s
  | .resetAssert => Sys2Proof.Machine.execResetAssert s
  | .warmReset straps => Sys2Proof.Machine.execWarmReset straps s
  | .coldStart straps => Sys2Proof.Machine.execColdStart straps s
  | .clockSecond => Sys2Proof.Machine.execClockSecond s
  | .referenceCheck cycles present => Sys2Proof.Machine.execReferenceCheck cycles present s
  | .clockMinute => Sys2Proof.Machine.execClockMinute s
  | .scoreDecay => Sys2Proof.Machine.execScoreDecay s
  | .expirySweep => Sys2Proof.Machine.execExpirySweep s
  | .retryAfterExpiry slot => Sys2Proof.Machine.execRetryAfterExpiry slot s
  | .checkTimerExpiry => Sys2Proof.Machine.execCheckTimerExpiry s
  | .silencePeriodExpiry => Sys2Proof.Machine.execSilencePeriodExpiry s
  | .revoke => Sys2Proof.Machine.execRevoke s
  | .settleEnd => Sys2Proof.Machine.execSettleEnd s
  | .transmissionCompleted => Sys2Proof.Machine.execTransmissionCompleted s
  | .keySenseRise => Sys2Proof.Machine.execKeySenseRise s
  | .keySenseFall => Sys2Proof.Machine.execKeySenseFall s
  | .keyNoResponse => Sys2Proof.Machine.execKeyNoResponse s
  | .keyStuck => Sys2Proof.Machine.execKeyStuck s
  | .carrierEnd => Sys2Proof.Machine.execCarrierEnd s
  | .scanDwellEnd => Sys2Proof.Machine.execScanDwellEnd s
  | .levelConversionEnd result => Sys2Proof.Machine.execLevelConversionEnd result s
  | .watchSettleEnd => Sys2Proof.Machine.execWatchSettleEnd s
  | .watchDwellEnd => Sys2Proof.Machine.execWatchDwellEnd s
  | .watchHoldExpiry => Sys2Proof.Machine.execWatchHoldExpiry s
  | .phasingHeard path => Sys2Proof.Machine.execPhasingHeard path s
  | .turnReceived path => Sys2Proof.Machine.execTurnReceived path s
  | .clearReceived path => Sys2Proof.Machine.execClearReceived path s
  | .lossOfLock path => Sys2Proof.Machine.execLossOfLock path s
  | .trackerPhaseCorrection path error units => Sys2Proof.Machine.execTrackerPhaseCorrection path error units s
  | .frameRecord path groups => Sys2Proof.Machine.execFrameRecord path groups s
  | .answerWaitExpiry => Sys2Proof.Machine.execAnswerWaitExpiry s
  | .phasingWaitExpiry => Sys2Proof.Machine.execPhasingWaitExpiry s
  | .turnWaitExpiry => Sys2Proof.Machine.execTurnWaitExpiry s
  | .symbolWaitExpiry => Sys2Proof.Machine.execSymbolWaitExpiry s
  | .distressKeyPress => Sys2Proof.Machine.execDistressKeyPress s
  | .distressKeyRelease => Sys2Proof.Machine.execDistressKeyRelease s
  | .keyHoldExpiry => Sys2Proof.Machine.execKeyHoldExpiry s
  | .repeatIntervalExpiry => Sys2Proof.Machine.execRepeatIntervalExpiry s
  | .cancelWindowExpiry => Sys2Proof.Machine.execCancelWindowExpiry s
  | .cancelRetryExpiry => Sys2Proof.Machine.execCancelRetryExpiry s
  | .testReplyWaitExpiry => Sys2Proof.Machine.execTestReplyWaitExpiry s
  | .cadencePeriodEnd => Sys2Proof.Machine.execCadencePeriodEnd s
  | .badFrame port bytes => Sys2Proof.Machine.execBadFrame port bytes s
  | .overrun port data => Sys2Proof.Machine.execOverrun port data s
  | .responseRead port => Sys2Proof.Machine.execResponseRead port s
  | .tset port reading => Sys2Proof.Machine.execTset port reading s
  | .tget port => Sys2Proof.Machine.execTget port s
  | .posn port form => Sys2Proof.Machine.execPosn port form s
  | .pget port => Sys2Proof.Machine.execPget port s
  | .ship port vessel home interval => Sys2Proof.Machine.execShip port vessel home interval s
  | .chrd port index hold => Sys2Proof.Machine.execChrd port index hold s
  | .chwr port index fields => Sys2Proof.Machine.execChwr port index fields s
  | .tune port index duration => Sys2Proof.Machine.execTune port index duration s
  | .fack port => Sys2Proof.Machine.execFack port s
  | .fclr port => Sys2Proof.Machine.execFclr port s
  | .dopn port cls dest => Sys2Proof.Machine.execDopn port cls dest s
  | .dapp port slot chars => Sys2Proof.Machine.execDapp port slot chars s
  | .ddis port slot => Sys2Proof.Machine.execDdis port slot s
  | .mred port slot offset count part => Sys2Proof.Machine.execMred port slot offset count part s
  | .list port slot => Sys2Proof.Machine.execList port slot s
  | .mrkr port slot => Sys2Proof.Machine.execMrkr port slot s
  | .mdel port slot => Sys2Proof.Machine.execMdel port slot s
  | .hadd port content => Sys2Proof.Machine.execHadd port content s
  | .hred port haul mode hold => Sys2Proof.Machine.execHred port haul mode hold s
  | .hamd port haul content => Sys2Proof.Machine.execHamd port haul content s
  | .hdel port haul => Sys2Proof.Machine.execHdel port haul s
  | .trip port number => Sys2Proof.Machine.execTrip port number s
  | .totl port start => Sys2Proof.Machine.execTotl port start s
  | .crep port dest => Sys2Proof.Machine.execCrep port dest s
  | .dque port slot => Sys2Proof.Machine.execDque port slot s
  | .qexp port slot => Sys2Proof.Machine.execQexp port slot s
  | .qwdr port slot => Sys2Proof.Machine.execQwdr port slot s
  | .qlst port position => Sys2Proof.Machine.execQlst port position s
  | .skrd port index hold => Sys2Proof.Machine.execSkrd port index hold s
  | .skwr port index fields => Sys2Proof.Machine.execSkwr port index fields s
  | .dalr port nature => Sys2Proof.Machine.execDalr port nature s
  | .dtst port => Sys2Proof.Machine.execDtst port s
  | .dcan port => Sys2Proof.Machine.execDcan port s
  | .dcnf port => Sys2Proof.Machine.execDcnf port s
  | .dcls port => Sys2Proof.Machine.execDcls port s
  | .hack port vessel number => Sys2Proof.Machine.execHack port vessel number s
  | .hlst port position => Sys2Proof.Machine.execHlst port position s
  | .note port => Sys2Proof.Machine.execNote port s
  | .mask port classes => Sys2Proof.Machine.execMask port classes s
  | .stat port line => Sys2Proof.Machine.execStat port line s
  | .prst port => Sys2Proof.Machine.execPrst port s
  | .asil port => Sys2Proof.Machine.execAsil port s
  | .symbolGroup path units => Sys2Proof.Machine.execSymbolGroup path units s
  | .lineTransition path error units => Sys2Proof.Machine.execLineTransition path error units s
  | .symbolSent => Sys2Proof.Machine.execSymbolSent s
  | .cadenceOnPartEnd => Sys2Proof.Machine.execCadenceOnPartEnd s
  | .responseTransferReleased port => Sys2Proof.Machine.execResponseTransferReleased port s

end Sys2Proof.Machine
end

