-- ==== Sys2Proof/Safety.lean ====
section
/-! DEFINITION. The words statements are made of: when a command is taken and answered, what no hand-off
touches, and the invariants of the part. -/
namespace Sys2Proof.Machine

/-! ## Commands and their answers -/

/-- Between two steps no hand-off waits (log 8). -/
def State.atRest (s : State) : Prop := s.signals = []

/-- R182: a command with this tag, given now on this port, is taken by the rule of its own. -/
def State.admits (s : State) (p : Port) (t : Tag) : Prop :=
  s.atRest ∧ s.running = true ∧ (s.port p).state = .ready ∧ t.permits (s.port p).role = true

/-- R180, R183: the flags of a response: overrun, hold present, attention. -/
def flagByte (overrun hold attention : Bool) : Nat :=
  (if overrun then 1 else 0) + (if hold then 2 else 0) + (if attention then 4 else 0)

/-- R182, R183: in `t` the port responds with this status and data. `overrun` is the overrun flag the
command found. -/
def State.answered (t : State) (p : Port) (overrun : Bool) (st : Status) (data : List Byte) : Prop :=
  (t.port p).state = .responding ∧ (t.port p).overrun = false ∧
  (t.port p).response =
    some ⟨responseFrame st (flagByte overrun (t.port p).hold.isSome (t.atn p)) data, 0⟩

/-- R182: the command is refused with a status: the response is all there is to it. -/
def State.refusedWith (s : State) (p : Port) (st : Status) (t : State) : Prop := t = s.respond p st []

/-! ## The air (R1, R4, R5, R13) -/

/-- R4: the check word, on its own: a register of 0xFFFF takes each byte into its upper half, then shifts eight times
to the left, adding 0x1021 whenever a one leaves it. -/
def checkOver (l : List Nat) : BitVec 16 :=
  l.foldl (fun r x => (List.range 8).foldl (fun v _ => if v.msb then v <<< 1 ^^^ 0x1021#16 else v <<< 1)
    (r ^^^ BitVec.ofNat 16 (x * 256))) 0xFFFF#16

/-- R1: the 49 text characters, by their symbol numbers. -/
def airAlphabet : Text :=
  ((List.range 26).map (0x41 + ·) ++ (List.range 10).map (0x30 + ·) ++
    [0x20, 0x0A, 0x2E, 0x2C, 0x2D, 0x2F, 0x3F, 0x28, 0x29, 0x2B, 0x3D, 0x27, 0x3A]).map (BitVec.ofNat 8)

/-- R1: the symbols of a text of the alphabet. -/
def airSymbols (t : Text) : List Nat := t.map fun c => airAlphabet.idxOf c

/-- R5, R13: OPEN, what the check covers, the three base-48 digits of its check word, CLOSE. -/
def airFrame (covered : List Nat) : List Nat :=
  let w := (checkOver covered).toNat
  [51] ++ covered ++ [w / 2304, w % 2304 / 48, w % 48] ++ [52]

/-! ## The steady part

What the blocks' hand-offs leave alone: supplies, pins, timebase, position, identity, the queue of commands,
what masters gave of channels, windows and hauls, the totals, and the port contexts but for their pending
notices. -/

/-- What a master gave of a channel entry. -/
def Channel.given (c : Channel) : Bool × ChannelRole × Nat × Text × Nat := (c.valid, c.role, c.freq, c.station, c.floor)

/-- What a master gave of a window. -/
def Window.given (w : Window) : Bool × Nat × Nat × Nat × Nat × Bool × List Byte × List Nat :=
  (w.enabled, w.channel, w.start, w.duration, w.every, w.mandatory, w.subjects, w.areas)

/-- What a master gave of a haul. -/
def Haul.given (h : Haul) : Nat × Stamp × Stamp × HaulPosition × Byte × List (Text × Nat) × Port :=
  (h.number, h.first, h.last, h.pos, h.gear, h.species, h.origin)

/-- A port context without its pending notices. -/
def PortCtx.quiet (c : PortCtx) : PortCtx := { c with noticed := 0 }

/-- The part of the state that no hand-off between blocks changes. -/
structure Steady where
  supply   : Supply
  pins     : Pins
  time     : Timebase
  position : PositionRecord
  ident    : Identity
  pending  : List Instr
  channels : List (Bool × ChannelRole × Nat × Text × Nat)
  windows  : List (Bool × Nat × Nat × Nat × Nat × Bool × List Byte × List Nat)
  hauls    : List (Nat × Stamp × Stamp × HaulPosition × Byte × List (Text × Nat) × Port)
  totals   : List SpeciesTotal
  next     : Option Nat
  slots    : Nat
  a        : PortCtx
  b        : PortCtx
  c        : PortCtx

def State.steady (s : State) : Steady :=
  { supply := s.supply, pins := s.pins, time := s.time, position := s.position, ident := s.ident, pending := s.pending,
    channels := s.channels.map Channel.given, windows := s.windows.map Window.given, hauls := s.log.hauls.map Haul.given,
    totals := s.log.totals, next := s.log.next, slots := s.store.slots.length, a := s.ports.a.quiet,
    b := s.ports.b.quiet, c := s.ports.c.quiet }

/-- R15, R17: the steps that act although the part is stopped: supplies and resets, the timebase and the intervals
of the retained domain, and the two input lines that are followed (log 28). -/
def Instr.actsStopped : Instr → Bool
  | .vmainLoss | .backupLoss | .resetAssert | .warmReset _ | .coldStart _ => true
  | .clockSecond | .scoreDecay | .expirySweep | .retryAfterExpiry _ | .checkTimerExpiry | .silencePeriodExpiry => true
  | .keySenseRise | .keySenseFall | .distressKeyPress | .distressKeyRelease => true
  | _ => false

/-- R179: the straps of a port. -/
def Straps.ofPort (st : Straps) : Port → BitVec 2
  | .a => st.a
  | .b => st.b
  | .c => st.c

/-- What is steady beside the context of one port, which stands here as a restarted NONE port. -/
def State.beside (s : State) (p : Port) : Steady :=
  match p with
  | .a => { s.steady with a := (PortCtx.restarted .none).quiet }
  | .b => { s.steady with b := (PortCtx.restarted .none).quiet }
  | .c => { s.steady with c := (PortCtx.restarted .none).quiet }

/-- A port keeps its role, its mask and its hold. -/
def PortCtx.keeps (before after : PortCtx) : Prop :=
  after.role = before.role ∧ after.mask = before.mask ∧ after.hold = before.hold

/-- R52: in `u` the grant of `s` has ended. The claim of highest priority in the waiting set has become the grant, with
channel none and phase RX, and is asked to release at once when a claim still waiting preempts it; with none waiting the
arbiter is FREE. -/
def State.freed (s u : State) : Prop :=
  (s.arb.waiting = [] → u.arb.grant = none ∧ u.arb.waiting = []) ∧
  (s.arb.waiting ≠ [] → ∃ c ∈ s.arb.waiting, (∀ d ∈ s.arb.waiting, c.priority ≤ d.priority) ∧
    u.holder = some c ∧ u.grantChannel = none ∧ u.phase = some .rx ∧
    u.arb.waiting = s.arb.waiting.filter (fun w => decide (w ≠ c)) ∧ Signal.granted c ∈ u.signals ∧
    (u.arb.state = .releasing ↔ ∃ w ∈ u.arb.waiting, w.preempts c = true))

/-- The state after SYMBOL_GROUP steps for groups of a path, one after another. -/
def State.afterGroups (s : State) (p : Path) (l : List Byte) : State :=
  l.foldl (fun s u => match exec (.symbolGroup p u) s with
    | .next t => t
    | .fault _ => s
    | .refused _ => s) s

/-- R106, R108: in `u` a slot has joined the queue `before`, after every entry of its class and of the classes ahead of
it, and right before an entry of a later class where there is one. -/
def State.joined (before : List Nat) (u : State) (slot : Nat) : Prop :=
  ∃ ahead behind, before = ahead ++ behind ∧ u.queue.entries = ahead ++ slot :: behind ∧
    (∀ x ∈ ahead, u.rankOf x ≤ u.rankOf slot) ∧ ∀ x, behind.head? = some x → u.rankOf slot < u.rankOf x

/-- R109: in `u` a slot stands in the queue `before` ahead of the entries of its class and behind the classes ahead. -/
def State.expedited (before : List Nat) (u : State) (slot : Nat) : Prop :=
  ∃ ahead behind, before = ahead ++ behind ∧ u.queue.entries = ahead ++ slot :: behind ∧
    (∀ x ∈ ahead, u.rankOf x < u.rankOf slot) ∧ ∀ x, behind.head? = some x → u.rankOf slot ≤ u.rankOf x

/-- R88: the trip and carried totals of a species; none while the table does not hold it. -/
def HaulLog.totalsOf (l : HaulLog) (code : Text) : Option (Nat × Nat) :=
  (l.totals.find? fun t => decide (t.code = code)).map fun t => (t.total, t.carried)

/-- The lost flag is set on every port's hold on a haul; all else of the ports stands as it was (R184). -/
def State.haulLost (s : State) (n : Nat) (p : Port) : PortCtx :=
  if ∃ lost, (s.port p).hold = some ⟨.haul n, lost⟩ then { s.port p with hold := some ⟨.haul n, true⟩ } else s.port p

/-- R77: what the test of the low-space watch makes of it, on the counts a store shows. -/
def Store.watchTested (st : Store) (low : Bool) : Bool :=
  let slots := st.slots.countP (·.isNone)
  if low then !(decide (32 < st.free.length) && decide (4 < slots)) else decide (st.free.length < 32) || decide (slots < 4)

/-- R77: in `t` the low-space watch of `s` has been tested once, on the counts of `t`. -/
def State.lowTested (s t : State) : Prop := t.store.low = t.store.watchTested s.store.low

/-- R77: STORE_LOW is raised where the watch went from ARMED to LOW. -/
def State.lowBit (s t : State) : BitVec 16 := if s.store.low = false ∧ t.store.low = true then 0x1000#16 else 0

/-- R76: in `t` the record `r` of a slot is deleted, counted as a master deletion: its pages at the tail of the free
list, its slot free and off the age list, and the low-space watch tested (R77). Every other record stays. -/
def State.deletes (s t : State) (slot : Nat) (r : Record) : Prop :=
  (∀ m, t.record m = if m = slot then none else s.record m) ∧ t.store.free = s.store.free ++ r.pages ∧
  t.store.age = s.store.age.filter (fun m => decide (m ≠ slot)) ∧ t.store.deleted = min 65535 (s.store.deleted + 1) ∧
  t.store.evicted = s.store.evicted ∧ t.store.expired = s.store.expired ∧ t.store.part = s.store.part ∧ s.lowTested t

/-- R150, R155: in `u` the occurrence of an ACTIVE claim window has ended: the part in progress is closed as cut short,
the claim and the reception are over, and the transceiver is released, or a claim not granted withdrawn. -/
def State.occurrenceOver (s u : State) (c : Claimant) : Prop :=
  let closed := s.closePart 32
  u.store = closed.store ∧ u.alarm = closed.alarm ∧ u.bull = { closed.bull with claim := none, recv := none } ∧
  (s.holder = some c → s.freed u) ∧
  (s.holder ≠ some c → u.arb = { s.arb with waiting := s.arb.waiting.filter fun w => decide (w ≠ c) })

/-- R148: in `u` MISSED_WINDOW has been raised on the BRIDGE and RADIO ports where a window was missed, and nowhere else. -/
def State.missedTold (s u : State) (missed : Nat → Prop) : Prop :=
  ∀ q, ((∃ i, missed i) → (s.port q).role = .bridge ∨ (s.port q).role = .radio → (u.port q).noticed &&& 0x2000#16 ≠ 0) ∧
    ((∀ i, ¬ missed i) ∨ (s.port q).role = .none ∨ (s.port q).role = .catch_ →
      (u.port q).noticed &&& 0x2000#16 = (s.port q).noticed &&& 0x2000#16)

/-- R120: INBOUND for a message of this addressee is raised on the ports of this role. -/
def Addressee.hears (a : Addressee) (r : Role) : Bool :=
  match a with
  | .all => true
  | .bridge => decide (r = .bridge)
  | .radio => decide (r = .radio)
  | .catch_ => decide (r = .catch_)

/-! ## Invariants -/

/-- R31, R69, R144: the tables have their sizes. -/
def State.tablesSized (s : State) : Prop :=
  s.channels.length = Config.channels ∧ s.windows.length = Config.windows ∧ s.store.slots.length = Config.slots

/-- R20: the clock shows a date and time of its range. -/
def State.clockOk (s : State) : Prop := readingOk s.time.reading = true

/-- R29, R30: the identity record. -/
def Identity.ok (i : Identity) : Prop :=
  (i.vessel = [] ∨ isVessel i.vessel = true) ∧ (i.home = [] ∨ isStation i.home = true) ∧ i.interval ≤ 24 ∧ i.trip ≤ 999 ∧
  1 ≤ i.nextMsg ∧ i.nextMsg ≤ 9999 ∧ 1 ≤ i.nextReport ∧ i.nextReport ≤ 999

/-- R27: the position record. -/
def PositionRecord.ok (p : PositionRecord) : Prop :=
  -54000 ≤ p.lat ∧ p.lat ≤ 54000 ∧ -108000 ≤ p.lon ∧ p.lon ≤ 108000

/-- R31, R33: the fields a master gave of an entry. -/
def Channel.ok (c : Channel) : Prop :=
  c.floor ≤ 255 ∧ c.station.length ≤ Config.stationChars ∧
  (c.valid = true → 16000 ≤ c.freq ∧ c.freq ≤ 300000 ∧ stationFits c.role c.station = true)

/-- R144: the fields a master gave of a window. -/
def Window.ok (w : Window) : Prop :=
  w.channel ≤ 23 ∧ w.start / 100 ≤ 23 ∧ w.start % 100 ≤ 59 ∧ 1 ≤ w.duration ∧ w.duration ≤ 60 ∧
  w.every ∈ [1, 2, 3, 4, 6, 8, 12, 24] ∧ (∀ c ∈ w.subjects, c ∈ scheduleSubjects) ∧ 1 ≤ w.areas.length ∧
  w.areas.length ≤ 4 ∧ ∀ a ∈ w.areas, 1 ≤ a ∧ a ≤ 40

/-- What masters set lies in its ranges. -/
def State.settingsOk (s : State) : Prop :=
  s.tablesSized ∧ s.clockOk ∧ s.ident.ok ∧ s.position.ok ∧ (∀ c ∈ s.channels, c.ok) ∧ ∀ w ∈ s.windows, w.ok

/-- R87: haul numbers rise through the log, all below the next haul number. -/
def HaulLog.numbered (l : HaulLog) : Prop :=
  (l.hauls.map (·.number)).Pairwise (· < ·) ∧ ∀ n, l.next = some n → ∀ h ∈ l.hauls, h.number < n

/-- The weight of a species over all hauls of the log. -/
def HaulLog.weighed (l : HaulLog) (code : Text) : Nat := (l.hauls.map fun h => weightOf code h.species).sum

/-- R88: every trip total is the carried total and the weights of the log, and no haul names a species the
table does not hold. -/
def HaulLog.balanced (l : HaulLog) : Prop :=
  (∀ t ∈ l.totals, t.total = t.carried + l.weighed t.code) ∧
  ∀ h ∈ l.hauls, ∀ p ∈ h.species, ∃ t ∈ l.totals, t.code = p.1

/-- R87, R88. -/
def State.logOk (s : State) : Prop := s.log.numbered ∧ s.log.balanced

/-- The claimants that transmit (R55). -/
def Claimant.transmits (c : Claimant) : Prop := c = .distress ∨ c = .link ∨ c = .tune

/-- R50, R55, R60: the key is asserted exactly while a grant is in TX with its assertion not held back,
that grant has a channel and is held by a claimant that may transmit, and symbols wait on air only then. -/
def State.keyOk (s : State) : Prop :=
  (s.monitor = .rising ∨ s.monitor = .keyed ↔ s.phase = some .tx ∧ s.tx.heldBack = false) ∧
  (s.tx.heldBack = true → s.phase = some .tx ∧ s.monitor = .falling) ∧
  (s.tx.list ≠ [] → s.phase = some .tx) ∧
  ∀ g, s.arb.grant = some g → g.phase = .tx → g.channel.isSome = true ∧ g.holder.transmits

end Sys2Proof.Machine
end

