-- ==== Sys2Proof/Certificates/Slice0/Obligations.lean ====
section
/-! DEFINITION. The statements about the part, chapter by chapter. -/

open Sys2Proof Sys2Proof.Machine

/-! ## The queue of steps (log 4) -/

/-- The step at the front of the queue runs on the state with the rest of the queue. With an empty queue, which is the
model's choice (log 4, log 22), a unit of the symbol on air that is not its last gives way to the next one (R2, R14),
the strobe given where the tuning word changes; otherwise the part idles. Within a step the hand-offs are taken first
in, first out, until none is left (log 8). -/
def Obligations.StepRunsTheFront : Prop :=
  (∀ (c : Instr) (rest : List Instr) (s : State), s.pending = c :: rest →
     step s = exec c { s with pending := rest }) ∧
  (∀ s : State, s.pending = [] →
     (s.running = false ∨ s.sending = false ∨ 7 ≤ s.tx.unit → step s = .next s) ∧
     (∀ n rest, s.running = true → s.sending = true → s.tx.list = n :: rest → s.tx.unit < 7 →
       let space := !(unitsOf n).getMsbD (s.tx.unit + 1)
       step s = .next { s with tx := { s.tx with unit := s.tx.unit + 1 }, tuner := { s.tuner with space := space },
                               tstb := s.tstb + if s.tuner.space = space then 0 else 1 })) ∧
  ∀ s : State,
    (s.signals = [] → s.settle = s) ∧ (∀ g, (s.post g).signals = s.signals ++ [g]) ∧
    (∀ g rest, s.signals = g :: rest → s.settle = ({ s with signals := rest }.handle g).drain 4095) ∧
    ∀ n, (s.signals = [] → s.drain n = s) ∧
      ∀ g rest, s.signals = g :: rest → s.drain (n + 1) = ({ s with signals := rest }.handle g).drain n

/-! ## Supplies and resets (chapter 2) -/

/-- The cold values of R18 and of the chapters that own retained records, in the state right after reset, and that a
cold start with the same straps leaves that state as it is. The straps, key sense off and the push-button open are the
model's choice (log 5). R31, R144, R160, R116, R62, R117, R159, R174, R123: the cold or reset value of these records,
field by field; R179, R185: the role of each strapping and the default mask of each role. -/
def Obligations.ResetHoldsColdValues : Prop :=
  (exec (.coldStart Straps.typical) State.reset = .next State.reset ∧
   State.reset.time.reading = ⟨2000, 1, 1, 0, 0, 0⟩ ∧ State.reset.time.state = .unset ∧ State.reset.time.elapsed = 0 ∧
   State.reset.time.good = 0 ∧ State.reset.time.bad = 0 ∧ State.reset.time.qualified = false ∧
   State.reset.position.valid = false ∧ State.reset.position.lat = 0 ∧ State.reset.position.lon = 0 ∧
   State.reset.ident.vessel = [] ∧ State.reset.ident.home = [] ∧ State.reset.ident.interval = 0 ∧ State.reset.ident.trip = 0 ∧
   State.reset.ident.nextMsg = 1 ∧ State.reset.ident.nextReport = 1 ∧
   State.reset.supply.marker = .valid ∧ State.reset.running = true ∧
   State.reset.log.hauls = [] ∧ State.reset.log.totals = [] ∧ State.reset.log.reports = [] ∧ State.reset.log.next = some 1 ∧
   State.reset.queue.entries = [] ∧ State.reset.heard = [] ∧ State.reset.own.state = .none ∧
   State.reset.silence.running = false ∧ State.reset.fault.state = .none ∧ State.reset.link.state = .idle ∧
   State.reset.arb.grant = none ∧ State.reset.monitor = .quiet ∧
   (∀ n, n < 64 → State.reset.record n = none) ∧ State.reset.store.free = List.range 512 ∧
   (∀ n, n < 24 → (State.reset.channel n).valid = false) ∧ (∀ n, n < 16 → (State.reset.window n).enabled = false) ∧
   ∀ p, (State.reset.port p).state = .ready ∧ (State.reset.port p).hold = none ∧ (State.reset.port p).noticed = 0x0001#16 ∧
     (State.reset.port p).mask = (State.reset.port p).role.defaultMask) ∧
  [Role.none, .bridge, .radio, .catch_].map (·.defaultMask) = [0x0001#16, 0x007F#16, 0x3FFF#16, 0x1F01#16] ∧
  [0#2, 1#2, 2#2, 3#2].map Role.ofStraps = [.none, .bridge, .radio, .catch_] ∧
  Channel.cold = { valid := false, role := .traffic, freq := 16000, station := [], floor := 0, score := 0, poor := false,
                   last := none, smooth := none, scanned := none, good := none } ∧
  Window.cold = { enabled := false, channel := 0, start := 0, duration := 1, every := 24, mandatory := false, subjects := [],
                  areas := [1], state := .idle, missed := 0, span := none } ∧
  OwnAlert.cold =
    { state := .none, number := 0, nature := 0x55#8, cycles := 0, noChannel := false, requester := none, ret := none,
      armRet := none, ackCoast := none, testCoast := none, repeatOn := false, retryOn := false, testWait := false } ∧
  OutQueue.cold = { entries := [], timer := none, lastHome := 0, request := none } ∧
  FaultRecord.reset = { state := .none, first := none, second := none, count := 0 } ∧
  InboundSide.reset = { mode := .header, buffer := [], current := none, discarded := 0 } ∧
  BulletinEngine.reset = { claim := none, recv := none, stored := 0, duplicate := 0, filtered := 0, inferior := 0,
                           dropped := 0, empty := 0, overlong := 0 } ∧
  HeardCounts.reset = { malformed := 0, tests := 0, overflow := 0 } ∧
  Link.reset =
    { state := .idle, station := none, order := [], channel := none, index := 0, callTry := 0, connected := false,
      sendNext := 0, recvNext := 0, outstanding := [], current := none, requests := 0, notHeld := 0, setAside := [],
      silent := 0, quiet := 0, owed := [], replies := [], ending := false, answerWait := false, phasingWait := false,
      turnWait := false, cut := 0, mDue := false, placed := 0 }

/-- R15 to R17: loss of VMAIN, loss of the backup and assertion of RESET, and the output lines of a stopped part. That
the held expiries go with the backup is the model's reading (log 13). R15, R17: a stopped part takes no command, no
reception and no transmission. The two input lines are followed (log 28), and nothing else changes. -/
def Obligations.SuppliesAndTheStoppedPart : Prop :=
  (∀ s : State,
     exec .vmainLoss s = .next { s with supply := { s.supply with vmain := false, resetHeld := false } } ∧
     (s.supply.vmain = false →
       exec .backupLoss s = .next { s with supply := { s.supply with marker := .invalid, held := [] } }) ∧
     (s.supply.vmain = true → exec .backupLoss s = .next s) ∧
     (s.supply.vmain = true → exec .resetAssert s = .next { s with supply := { s.supply with resetHeld := true } }) ∧
     (s.supply.vmain = false → exec .resetAssert s = .next s) ∧
     ∀ t, exec .vmainLoss s = .next t ∨ s.supply.vmain = true ∧ exec .resetAssert s = .next t →
       t.keyLine = false ∧ t.sndr = false ∧ ∀ p, t.atn p = false ∧ t.rdy p = false) ∧
  (∀ s : State, s.running = false →
     (∀ c : Instr, Instr.actsStopped c = false → exec c s = .next s) ∧
     exec .keySenseRise s = .next { s with pins := { s.pins with ksns := true } } ∧
     exec .keySenseFall s = .next { s with pins := { s.pins with ksns := false } } ∧
     exec .distressKeyPress s = .next { s with pins := { s.pins with dbtn := true } } ∧
     exec .distressKeyRelease s = .next { s with pins := { s.pins with dbtn := false } })

/-- R18, R160, R179: a cold start gives every retained record its cold value and restarts every port in the role of its
straps; it raises no TIME. A push-button closed when it is complete is a press (R164), so the own alert is ARMING and
OWN_ALERT pending. The scanner has no current entry and no flag set (log 52). The tuning words stay (log 6). That it
gives them in every supply state, VMAIN present afterwards, is the model's reading of the row (log 3). -/
def Obligations.ColdStart : Prop :=
  ∀ (s : State) (st : Straps),
    ∃ t, exec (.coldStart st) s = .next t ∧
      t.supply = { vmain := true, resetHeld := false, marker := .valid, held := [] } ∧
      t.pins = { s.pins with straps := st } ∧ t.time = Timebase.cold ∧ t.position = PositionRecord.cold ∧
      t.ident = Identity.cold ∧ t.channels = List.replicate 24 Channel.cold ∧ t.windows = List.replicate 16 Window.cold ∧
      t.store = Store.cold ∧ t.log = HaulLog.cold ∧ t.queue = OutQueue.cold ∧ t.heard = [] ∧ t.silence = Silence.cold ∧
      t.own = (if s.pins.dbtn then { OwnAlert.cold with state := .arming, armRet := some false } else OwnAlert.cold) ∧
      t.trx = RxPath.reset ∧ t.watchPath = RxPath.reset ∧ t.sampler = none ∧ t.scanner = Scanner.reset ∧
      t.watch = { s.watch with state := .idle, entry := none, blanked := false, since := 0 } ∧
      t.arb = Arbiter.reset ∧ t.tuner.freq = s.tuner.freq ∧ t.tx = TxPath.reset ∧
      t.monitor = (if s.pins.ksns then .falling else .quiet) ∧ t.fault = FaultRecord.reset ∧ t.link = Link.reset ∧
      t.inbound = InboundSide.reset ∧ t.bull = BulletinEngine.reset ∧ t.cycle = none ∧ t.frameBuf = [] ∧
      t.heardCounts = HeardCounts.reset ∧ t.alarm = Alarm.reset ∧ t.pending = s.pending ∧ t.signals = [] ∧
      ∀ p, t.port p =
        { role := Role.ofStraps (Straps.ofPort st p), state := .ready, overrun := false,
          hold := none, noticed := if s.pins.dbtn then 0x0011#16 else 0x0001#16,
          mask := (Role.ofStraps (Straps.ofPort st p)).defaultMask, response := none }

/-- R17, R24, R39, R45, R68, R86, R144, R164, R178, R179, R188: a warm reset, block by block. `w` is the part once every
block stands at its warm values: the clock, the elapsed seconds, the position, the identity, the channels, the haul log,
the queue, the heard list and the silence period as they were; LOCKED become HOLDOVER; records in transfer and the open
part as R86 has it; the own alert by R178's table; every block outside the retained domain at its reset value; every
port restarted in the role of its straps. The own alert's cycle begins, the held expiries are delivered in their order
(log 13), and what a reset begins follows, in the order of log 31. With the marker INVALID and VMAIN absent there is
none (log 29); in every other supply state it acts as the end of its pulse (log 3). What the waiting minute, the tuning
words, the strobe counts and the scanner's current entry and flags do is the model's (log 6, log 12, log 48, log 52). -/
def Obligations.WarmReset : Prop :=
  ∀ (s : State) (st : Straps),
    (s.retained = true →
      let wasLocked := s.time.state = .locked
      let slots := s.store.slots.map fun r => r.map fun (x : Record) =>
        match x.body with
        | .outbound o => if o.state = .sending then { x with body := .outbound { o with state := .queued } } else x
        | .inbound i => if i.state = .receiving then { x with body := .inbound { i with state := .incomplete } } else x
        | .bulletin _ => x
      let free := s.store.free ++ s.store.part.elim [] fun p => p.pages
      let isLow := free.length < 32 ∨ slots.countP (·.isNone) < 4
      let o : OwnAlert := { s.own with repeatOn := false, retryOn := false, testWait := false }
      let own : OwnAlert := match s.own.state with
        | .none | .acknowledged | .active | .cancelling => o
        | .arming | .testing => { o with state := .none, armRet := none }
        | .cancelPending =>
          { o with state := if s.own.ret = some true then .acknowledged else .active, ret := none, requester := none }
      let unread := s.heard.any fun h => !h.acked
      let cadence : Option Cause := if unread then some .distressHeard else if own.state = .active then some .ownAlert else none
      let notices : BitVec 16 := 0x0001#16 ||| (if wasLocked then 0x0002#16 else 0) ||| (if isLow then 0x1000#16 else 0) |||
        (if own.state = s.own.state then 0 else 0x0010#16)
      let restarted : BitVec 2 → PortCtx := fun straps =>
        { role := Role.ofStraps straps, state := .ready, overrun := false, hold := none, noticed := notices,
          mask := (Role.ofStraps straps).defaultMask, response := none }
      let w : State := { s with
        supply := { s.supply with vmain := true, resetHeld := false }
        pins := { s.pins with straps := st }
        time := { s.time with state := if wasLocked then .holdover else s.time.state, good := 0, bad := 0, qualified := false,
                              minute := none }
        trx := RxPath.reset, watchPath := RxPath.reset, sampler := none, scanner := Scanner.reset
        watch := { s.watch with state := .idle, entry := none, blanked := false, since := 0 }
        arb := Arbiter.reset, tuner := { s.tuner with space := false }, tx := TxPath.reset
        monitor := if s.pins.ksns then .falling else .quiet
        fault := FaultRecord.reset
        store := { s.store with slots := slots, free := free, part := none, low := decide isLow }
        inbound := InboundSide.reset, link := Link.reset
        windows := s.windows.map fun (x : Window) => { x with state := .idle, span := none }
        bull := BulletinEngine.reset
        own := own, cycle := none, frameBuf := [], heardCounts := HeardCounts.reset
        ports := ⟨restarted st.a, restarted st.b, restarted st.c⟩
        alarm := { Alarm.reset with distressHeard := ⟨unread, false⟩, ownAlert := ⟨decide (own.state = .active), false⟩,
                                    running := cadence, onPart := cadence.isSome, next := cadence }
        signals := (if wasLocked then [.gateClosed] else []) ++
          (if s.own.state = .arming ∨ s.own.state = .testing then [.linkTest] else []) }
      let alerted : State := match own.state with
        | .active => w.beginCycle .alert
        | .cancelling => w.beginCycle .cancel
        | .none | .acknowledged | .arming | .testing | .cancelPending => w
      let delivered := s.supply.held.foldl State.takeExpiry { alerted with supply := { alerted.supply with held := [] } }
      let pressed := (delivered.bullStart.post .linkTest).pressHeld
      ∃ t, exec (.warmReset st) s = .next t ∧ t = ((pressed.watchStepAfter none).post .scannerCheck).settle ∧
        t.supply = { s.supply with vmain := true, resetHeld := false, held := [] } ∧
        t.pins = { s.pins with straps := st } ∧ t.time = w.time ∧
        t.position = s.position ∧ t.ident = s.ident ∧ t.channels.map Channel.given = s.channels.map Channel.given ∧
        t.windows.map Window.given = s.windows.map Window.given ∧ t.log.hauls.map Haul.given = s.log.hauls.map Haul.given ∧
        t.log.totals = s.log.totals ∧ t.log.next = s.log.next ∧ t.store.slots.length = s.store.slots.length ∧
        t.pending = s.pending ∧ t.signals = [] ∧
        ∀ p, (t.port p).quiet =
          (PortCtx.restarted (Role.ofStraps (Straps.ofPort st p))).quiet) ∧
    (s.retained = false → exec (.warmReset st) s = .next s)

/-! ## Time (chapter 2) -/

/-- R20, R21: each elapsed second the clock goes on by one second of the calendar and the elapsed-seconds count by one,
in every time state and while the part is stopped; past 2099-12-31 23:59:59 it reads 2000-01-01 00:00:00 in UNSET.
Nothing steady but the timebase changes. What the count shows past its largest value is free (log 11); a clock minute is
kept for the bulletin engine (log 12). R20, R24, R151: at the wrap, no clock minute waiting, TIME is raised on all ports
unless the state was UNSET (log 37), the closing of the gate is handed on where it was LOCKED, and the bulletin engine
gives up its claim, every window becomes IDLE uncounted, and it reviews its claim (see ClockMinute), before the closing
of the gate is taken (log 55). R20, R25: which readings are of the calendar, and the next second of each but the last.
-/
def Obligations.ClockSecond : Prop :=
  ((∀ s : State, s.retained = true → s.clockOk →
      ∃ t, exec .clockSecond s = .next t ∧ t.clockOk ∧
        (s.time.reading ≠ ⟨2099, 12, 31, 23, 59, 59⟩ →
          instant t.time.reading = instant s.time.reading + 1 ∧ t.time.state = s.time.state) ∧
        (s.time.reading = ⟨2099, 12, 31, 23, 59, 59⟩ → t.time.reading = ⟨2000, 1, 1, 0, 0, 0⟩ ∧ t.time.state = .unset) ∧
        (s.time.elapsed ≠ 0xFFFFFFFF#32 → t.time.elapsed = s.time.elapsed + 1) ∧
        t.time.good = s.time.good ∧ t.time.bad = s.time.bad ∧ t.time.qualified = s.time.qualified ∧
        t.time.minute = (if s.running = true ∧ t.time.reading.second = 0 then some t.time.reading else none) ∧
        t.steady = { s.steady with time := t.time }) ∧
   ∀ s : State, s.running = true → s.time.minute = none → s.time.elapsed ≠ 0xFFFFFFFF#32 →
     s.time.reading = ⟨2099, 12, 31, 23, 59, 59⟩ →
     let zero : Reading := ⟨2000, 1, 1, 0, 0, 0⟩
     let x : State := { s with time := { s.time with reading := zero, state := .unset, elapsed := s.time.elapsed + 1,
                                                     minute := some zero } }
     let told : State := match s.time.state with
       | .unset => x
       | .holdover => x.raiseAll .time
       | .locked => (x.raiseAll .time).post .gateClosed
     exec .clockSecond s = .next (State.bullReview { told.bullYield with
       windows := s.windows.map fun (w : Window) => { w with state := .idle, span := none } }).settle) ∧
  (∀ r : Reading,
     let days := if r.month = 2 then (if r.year % 4 = 0 then 29 else 28)
       else if r.month = 4 ∨ r.month = 6 ∨ r.month = 9 ∨ r.month = 11 then 30 else 31
     (readingOk r = true ↔ 2000 ≤ r.year ∧ r.year ≤ 2099 ∧ 1 ≤ r.month ∧ r.month ≤ 12 ∧ 1 ≤ r.day ∧ r.day ≤ days ∧
       r.hour ≤ 23 ∧ r.minute ≤ 59 ∧ r.second ≤ 59) ∧
     (readingOk r = true → r ≠ ⟨2099, 12, 31, 23, 59, 59⟩ →
       let next : Reading := if r.second < 59 then { r with second := r.second + 1 }
         else if r.minute < 59 then ⟨r.year, r.month, r.day, r.hour, r.minute + 1, 0⟩
         else if r.hour < 23 then ⟨r.year, r.month, r.day, r.hour + 1, 0, 0⟩
         else if r.day < days then ⟨r.year, r.month, r.day + 1, 0, 0, 0⟩
         else if r.month < 12 then ⟨r.year, r.month + 1, 1, 0, 0, 0⟩
         else ⟨r.year + 1, 1, 1, 0, 0, 0⟩
       instant next = instant r + 1 ∧
       ∀ s : State, s.retained = true → s.time.reading = r →
         ∃ t, exec .clockSecond s = .next t ∧ t.time.reading = next)) ∧
  instant ⟨2000, 1, 1, 0, 0, 0⟩ = 0

/-- R23, R24: a second judged good or bad, in each row and column of R23's table, with the change of time state it
brings and TIME raised on all ports. The blocks then take what they are handed. -/
def Obligations.ReferenceCheck : Prop :=
  ∀ (s : State) (cycles : Nat) (present : Bool), s.running = true →
    (s.time.qualified = true → s.time.good ≤ 64 ∧ s.time.bad < 3) → (s.time.qualified = false → s.time.good < 64) →
    (present = true ∧ 999998 ≤ cycles ∧ cycles ≤ 1000002 →
      (s.time.qualified = true → exec (.referenceCheck cycles present) s =
        .next { s with time := { s.time with good := min 64 (s.time.good + 1), bad := 0 } }.settle) ∧
      (s.time.qualified = false → s.time.good + 1 < 64 → exec (.referenceCheck cycles present) s =
        .next { s with time := { s.time with good := s.time.good + 1, bad := 0 } }.settle) ∧
      (s.time.qualified = false → s.time.good + 1 = 64 → s.time.state ≠ .holdover → exec (.referenceCheck cycles present) s =
        .next { s with time := { s.time with good := 64, bad := 0, qualified := true } }.settle) ∧
      (s.time.qualified = false → s.time.good + 1 = 64 → s.time.state = .holdover →
        let locked : Timebase := { s.time with good := 64, bad := 0, qualified := true, state := .locked }
        exec (.referenceCheck cycles present) s =
          .next (({ s with time := locked }.raiseAll .time).post .linkTest).settle)) ∧
    (¬ (present = true ∧ 999998 ≤ cycles ∧ cycles ≤ 1000002) →
      (s.time.qualified = false → exec (.referenceCheck cycles present) s =
        .next { s with time := { s.time with good := 0, bad := min 3 (s.time.bad + 1) } }.settle) ∧
      (s.time.qualified = true → s.time.bad + 1 < 3 → exec (.referenceCheck cycles present) s =
        .next { s with time := { s.time with good := 0, bad := s.time.bad + 1 } }.settle) ∧
      (s.time.qualified = true → s.time.bad + 1 = 3 → s.time.state ≠ .locked → exec (.referenceCheck cycles present) s =
        .next { s with time := { s.time with good := 0, bad := 3, qualified := false } }.settle) ∧
      (s.time.qualified = true → s.time.bad + 1 = 3 → s.time.state = .locked →
        let holdover : Timebase := { s.time with good := 0, bad := 3, qualified := false, state := .holdover }
        exec (.referenceCheck cycles present) s =
          .next (({ s with time := holdover }.raiseAll .time).post .gateClosed).settle))

/-- R22, R148: the clock minute the clock has reached is taken once (how it waits: log 12), and not in UNSET. In step 1
an enabled IDLE window at a nominal start goes DUE with its span, wider by 2 minutes at each end in HOLDOVER, and a DUE
or ACTIVE one keeps the later end; in step 2 a window at its end becomes IDLE, and one that was DUE is missed, with
MISSED_WINDOW on the BRIDGE and RADIO ports; the end of the ACTIVE claim window closes the part and releases the grant
(R150, R155). Disabled windows are not tested. `u` is the state before step 3, the review of the claim, which is
followed by the hand-offs. R149: the review, row by row of its table: a claim for the first DUE window, its withdrawal,
and the switch from an ordinary window to a mandatory one. R150: how the holder takes a release request and REVOKED. -/
def Obligations.ClockMinute : Prop :=
  (∀ s : State, s.atRest → s.running = true →
     (s.time.minute = none → exec .clockMinute s = .next s) ∧
     (∀ r, s.time.minute = some r → s.time.state = .unset →
       exec .clockMinute s = .next { s with time := { s.time with minute := none } }) ∧
     ∀ (r : Reading) (m : Int), s.time.minute = some r → s.time.state ≠ .unset → m = instant r →
       let holdover := s.time.state = .holdover
       let margin : Int := if s.time.state = .holdover then 120 else 0
       let nominal : Window → Int → Prop := fun w t => (t - w.startSecond) % w.period = 0
       let startsFor : Window → Int → Prop := fun w n =>
         nominal w n ∧ (n = m ∨ holdover ∧ ¬ nominal w m ∧ n = m + 120)
       let noStart : Window → Prop := fun w => ¬ nominal w m ∧ (holdover → ¬ nominal w (m + 120))
       let ends : Window → Prop := fun w => w.enabled = true ∧ noStart w ∧ ∃ a, w.span = some (a, m)
       ∃ u : State, exec .clockMinute s = .next u.bullReview.settle ∧
         u.steady = { s.steady with time := { s.time with minute := none } } ∧
         ((∀ w ∈ s.windows, 0 < w.duration) →
           s.missedTold u (fun i => ends (s.window i) ∧ (s.window i).state ≠ .active) ∧
           (∀ w, s.bull.claim = some w → (s.window w).state = .active → ends (s.window w) →
             s.occurrenceOver u (s.window w).claimant) ∧
           ((∀ w, s.bull.claim = some w → (s.window w).state = .active → ¬ ends (s.window w)) →
             u = { s with time := { s.time with minute := none }, windows := u.windows, ports := u.ports })) ∧
         ∀ i, i < s.windows.length →
           let w := s.window i
           (w.enabled = false → u.window i = w) ∧
           (w.enabled = true → 0 < w.duration →
             (w.state = .idle → ∀ n, startsFor w n →
               u.window i = { w with state := .due, span := some (n - margin, n + w.duration * 60 + margin) }) ∧
             (w.state ≠ .idle → ∀ n a b, startsFor w n → w.span = some (a, b) →
               u.window i = { w with span := some (a, max b (n + w.duration * 60 + margin)) }) ∧
             (noStart w → w.span = none → u.window i = w) ∧
             (noStart w → ∀ a b, w.span = some (a, b) → b ≠ m → u.window i = w) ∧
             (noStart w → ∀ a b, w.span = some (a, b) → b = m → w.state = .due →
               u.window i = { w with state := .idle, span := none, missed := min 255 (w.missed + 1) }) ∧
             (noStart w → ∀ a b, w.span = some (a, b) → b = m → w.state = .active →
               u.window i = { w with state := .idle, span := none }))) ∧
  ∀ s : State,
    let due : Bool → Nat → Prop := fun mandatory i =>
      i < s.windows.length ∧ (s.window i).state = .due ∧ (s.window i).mandatory = mandatory
    let isFirst : Nat → Prop := fun v => (due true v ∧ ∀ j, j < v → ¬ due true j) ∨
      (due false v ∧ (∀ j, ¬ due true j) ∧ ∀ j, j < v → ¬ due false j)
    let noneDue := ∀ mandatory j, ¬ due mandatory j
    let claimFor : Nat → State → State := fun v x => State.claim { x with bull := { x.bull with claim := some v } }
      (if (s.window v).mandatory = true then .bulletinMandatory else .bulletinOrdinary)
    (s.bull.claim = none → s.bullYield = s ∧ (noneDue → s.bullReview = s) ∧ ∀ v, isFirst v → s.bullReview = claimFor v s) ∧
    ∀ w, s.bull.claim = some w →
      let own : Claimant := if (s.window w).mandatory = true then .bulletinMandatory else .bulletinOrdinary
      let closed := s.closePart 32
      let back : State := { s.bullYield with windows := s.windows.modify w fun x => { x with state := .due } }
      s.bullYield = State.release { closed with bull := { closed.bull with claim := none, recv := none } } own ∧
      ((s.window w).state ≠ .active →
        (isFirst w → s.bullReview = s) ∧ (noneDue → s.bullReview = s.bullYield) ∧
        (∀ v, isFirst v → v ≠ w → s.bullReview = claimFor v s.bullYield) ∧
        ∀ c, c = .bulletinMandatory ∨ c = .bulletinOrdinary →
          s.handle (.releaseRequest c) = s ∧ s.handle (.revoked c) = s) ∧
      ((s.window w).state = .active →
        ((s.window w).mandatory = true ∨ (∀ j, ¬ due true j) → s.bullReview = s) ∧
        (∀ v, (s.window w).mandatory = false → due true v → (∀ j, j < v → ¬ due true j) →
          s.bullReview = claimFor v back) ∧
        ∀ c, c = .bulletinMandatory ∨ c = .bulletinOrdinary →
          (s.asked c = true → s.handle (.releaseRequest c) = back.bullReview) ∧ s.handle (.revoked c) = back.bullReview)

/-- R34, R35: at each expiry of the decay every score other than 0 moves 1 toward 0 and POOR is brought up to date;
nothing else changes. R34: a score event on an entry, its limits −64 and +63, POOR set at −16 and below and cleared at 0
and above, and no effect on an invalid entry. -/
def Obligations.ScoreDecay : Prop :=
  (∀ s : State, s.atRest → s.running = true →
     ∃ t, exec .scoreDecay s = .next t ∧ t = { s with channels := t.channels } ∧ t.channels.length = s.channels.length ∧
       ∀ i, i < s.channels.length →
         let c := s.channel i
         let d := t.channel i
         d = { c with score := d.score, poor := d.poor } ∧
         (c.score = 0 → d = c) ∧ (0 < c.score → d.score = c.score - 1) ∧ (c.score < 0 → d.score = c.score + 1) ∧
         (c.score ≠ 0 → d.score ≤ -16 → d.poor = true) ∧ (c.score ≠ 0 → 0 ≤ d.score → d.poor = false) ∧
         (-15 ≤ d.score → d.score ≤ -1 → d.poor = c.poor)) ∧
  ∀ (c : Channel) (change : Int),
    let n := max (-64) (min 63 (c.score + change))
    (c.valid = false → c.scored change = c) ∧
    (c.valid = true → n ≤ -16 → c.scored change = { c with score := n, poor := true }) ∧
    (c.valid = true → -16 < n → n < 0 → c.scored change = { c with score := n }) ∧
    (c.valid = true → 0 ≤ n → c.scored change = { c with score := n, poor := false })

/-- R76 to R78: at each sweep every BULLETIN record of the age list whose expiry is at or before the clock is deleted,
in the order of that list, its pages going to the tail of the free list and the count raised; every other record stays,
the low-space watch is tested (R77), STORE_LOW raised where it falls, and of the steady part nothing changes. -/
def Obligations.ExpirySweep : Prop :=
  ∀ s : State, s.atRest → s.running = true → s.store.age.Nodup →
    ∃ t, exec .expirySweep s = .next t ∧
      let gone := s.store.age.filter fun n =>
        match s.record n with
        | some ⟨_, _, .bulletin b⟩ => decide (b.expiry ≤ s.clock)
        | _ => false
      (∀ n, t.record n = if n ∈ gone then none else s.record n) ∧
      t.store.age = s.store.age.filter (fun n => decide (n ∉ gone)) ∧
      t.store.free = s.store.free ++ (gone.map fun n => ((s.record n).map Record.pages).getD []).flatten ∧
      (s.store.expired + gone.length ≤ 65535 → t.store.expired = s.store.expired + gone.length) ∧
      t.store.part = s.store.part ∧ t.store.evicted = s.store.evicted ∧ t.store.deleted = s.store.deleted ∧
      s.lowTested t ∧ (∀ q, t.port q = { s.port q with noticed := (s.port q).noticed ||| s.lowBit t }) ∧
      t.steady = s.steady ∧ t = { s with store := t.store, ports := t.ports }

/-- R21, R112, R116, R177: the expiry of a retry-after, of the check timer and of the silence period, each taken by its
owner while its interval runs and without effect while it does not (log 30); the check is tested as R116 gives. R177:
the expiry of a silence period that an S frame has since replaced has no effect; the period that runs is at its end when
the elapsed count is at most one second short of it (log 51). R21: an expiry of the retained domain that falls while the
part is stopped is held, one for each; with the domain without power nothing is (R16). -/
def Obligations.IntervalExpiries : Prop :=
  (∀ s : State, s.atRest → s.running = true →
     (∀ n o, s.outbound n = some o → o.retry.isSome = true →
       exec (.retryAfterExpiry n) s = .next ((s.modOutbound n fun o => { o with retry := none }).post .linkTest).settle) ∧
     (∀ n, (∀ o, s.outbound n = some o → o.retry = none) → exec (.retryAfterExpiry n) s = .next s) ∧
     (s.queue.timer = none → exec .checkTimerExpiry s = .next s) ∧
     (s.queue.timer.isSome = true →
       let none_ : OutQueue := { s.queue with timer := none }
       let passed := s.since s.queue.lastHome
       let length := s.ident.interval * 3600
       (s.ident.interval = 0 → exec .checkTimerExpiry s = .next { s with queue := { none_ with request := none } }) ∧
       (0 < s.ident.interval → s.ident.home = [] → exec .checkTimerExpiry s = .next { s with queue := none_ }) ∧
       (0 < s.ident.interval → s.ident.home ≠ [] → length ≤ passed → exec .checkTimerExpiry s =
         .next ({ s with queue := { none_ with request := some s.ident.home } }.post .linkTest).settle) ∧
       (0 < s.ident.interval → s.ident.home ≠ [] → passed < length → exec .checkTimerExpiry s =
         .next { s with queue := { none_ with timer := some ⟨s.time.elapsed, length - passed⟩ } })) ∧
     (s.silence.running = true → 899 ≤ s.since s.silence.since → exec .silencePeriodExpiry s =
       .next (({ s with silence := { s.silence with running := false } }.raiseAll .silence).post .linkTest).settle) ∧
     (s.silence.running = false ∨ s.since s.silence.since < 899 → exec .silencePeriodExpiry s = .next s)) ∧
  (∀ s : State, s.running = false →
     (s.retained = true →
       exec .scoreDecay s = .next { s with supply := { s.supply with held := s.supply.held ++ [.scoreDecay] } } ∧
       exec .expirySweep s = .next { s with supply := { s.supply with held := s.supply.held ++ [.expirySweep] } } ∧
       (∀ n o, s.outbound n = some o → o.retry.isSome = true → exec (.retryAfterExpiry n) s =
         .next { s with supply := { s.supply with held := s.supply.held ++ [.retryAfter n] } }) ∧
       (s.queue.timer.isSome = true → exec .checkTimerExpiry s =
         .next { s with supply := { s.supply with held := s.supply.held ++ [.checkTimer] } }) ∧
       (s.silence.running = true → 899 ≤ s.since s.silence.since → exec .silencePeriodExpiry s =
         .next { s with supply := { s.supply with held := s.supply.held ++ [.silencePeriod] } })) ∧
     (s.retained = false →
       exec .scoreDecay s = .next s ∧ exec .expirySweep s = .next s ∧ exec .checkTimerExpiry s = .next s ∧
       exec .silencePeriodExpiry s = .next s ∧ ∀ n, exec (.retryAfterExpiry n) s = .next s))


/-! ## Transceiver (chapters 1 and 4) -/

/-- R52, R53, R57, R59, R67: the release limit revokes the grant of a RELEASING arbiter, and a carrier that has run its
time makes TUNE release; the key is released, the path stopped and the transceiver becomes free. Elsewhere neither has
an effect (log 1, log 30). `u` is the state before the hand-offs. R48, R51, R53, R58: a claim, taken, waiting or asking
the holder to release (the time of a request: log 9), and a release by its holder or by another. R56, R63, R67, R140:
when the gate closes, a link under way is abandoned by its state, in TX after the trim of the path to the frame end, and
a TUNE claim is dropped or released. R55: when the gate is open. -/
def Obligations.RevokeAndCarrierEnd : Prop :=
  ((∀ s : State, s.atRest → s.running = true →
      (s.arb.state ≠ .releasing → exec .revoke s = .next s) ∧
      (∀ g, s.arb.grant = some g → g.request.isSome = true →
        ∃ u : State, exec .revoke s = .next u.settle ∧ s.freed u ∧ Signal.revoked g.holder ∈ u.signals ∧
          (g.phase = .tx → u.keyLine = false ∧ u.tx = TxPath.reset) ∧ (g.holder = .tune → u.arb.tune = none) ∧
          u.steady = s.steady) ∧
      (¬ (s.holder = some .tune ∧ s.phase = some .tx ∧ s.tx.heldBack = false) → exec .carrierEnd s = .next s) ∧
      (s.holder = some .tune → s.phase = some .tx → s.tx.heldBack = false →
        ∃ u : State, exec .carrierEnd s = .next u.settle ∧ s.freed u ∧ u.keyLine = false ∧ u.tx = TxPath.reset ∧
          u.arb.tune = none ∧ u.steady = s.steady)) ∧
   (∀ (s : State) (c : Claimant),
      let u := s.release c
      (s.holder ≠ some c → u = { s with arb := { s.arb with tune := if c = .tune then none else s.arb.tune,
                                                            waiting := s.arb.waiting.filter fun w => decide (w ≠ c) } }) ∧
      (s.holder = some c → s.freed u ∧ (s.phase = some .tx → u.keyLine = false ∧ u.tx = TxPath.reset) ∧
        (c = .tune → u.arb.tune = none) ∧ u.steady = s.steady)) ∧
   (∀ (s : State) (c : Claimant), c ≠ .scan →
      let waits : State := { s with arb := { s.arb with waiting := s.arb.waiting ++ [c] } }
      let u := s.claim c
      let outranks : Claimant → Bool := fun h => decide (h = .scan) || decide (c = .distress ∧ h ≠ .distress) ||
        decide (c = .bulletinMandatory ∧ h ≠ .distress ∧ h ≠ .bulletinMandatory)
      (s.holder = some c ∨ c ∈ s.arb.waiting → u = s) ∧
      (c ∉ s.arb.waiting → s.arb.grant = none → u.holder = some c ∧ u.grantChannel = none ∧ u.phase = some .rx ∧
        u.arb.waiting = s.arb.waiting ∧ Signal.granted c ∈ u.signals ∧ u.steady = s.steady) ∧
      ∀ g, c ∉ s.arb.waiting → s.arb.grant = some g → g.holder ≠ c →
        (g.request.isSome = true ∨ outranks g.holder = false → u = waits) ∧
        (g.request = none → outranks g.holder = true → u = State.post { waits with
          arb := { waits.arb with grant := some { g with request := some s.nowMs } }, freeCount := s.freeCount + 1 }
          (.releaseRequest g.holder))) ∧
   (∀ s : State,
      let inTx := s.holder = some .link ∧ s.phase = some .tx
      let ending : State := { s with link := { s.link with ending := true } }
      let tuneDrops : State → State := fun v => if v.holder = some .tune ∨ .tune ∈ v.arb.waiting then v.release .tune else v
      let u := s.handle .gateClosed
      (s.link.state = .idle ∨ s.link.ending = true → u = tuneDrops s) ∧
      (s.link.state ≠ .idle → s.link.ending = false → inTx → u = tuneDrops ending.trim) ∧
      (s.link.state ≠ .idle → s.link.ending = false → ¬ inTx → u = tuneDrops (s.endLink .abandoned))) ∧
   ∀ s : State,
     (s.tx.list = [] → s.trim = s) ∧
     (∀ c, s.tx.list ≠ [] → s.tx.heldBack = true → s.monitor = .falling → s.holder = some c → s.phase = some .tx →
       s.trim = ({ s with tx := TxPath.reset }.setPhase .rx).post (.completed c 0)) ∧
     ∀ n rest, s.tx.list = n :: rest → s.tx.heldBack = false →
       let inside := n = openSym ∨ s.tx.inFrame = true
       let keeps : List Symbol → State := fun l => { s with tx := { s.tx with list := l } }
       (¬ inside → s.trim = keeps [n]) ∧ (inside → closeSym ∉ n :: rest → s.trim = s) ∧
       ∀ l l', inside → n :: rest = l ++ closeSym :: l' → closeSym ∉ l → s.trim = keeps (l ++ [closeSym])) ∧
  ∀ s : State, s.gateClosed = false ↔
    s.time.state = .locked ∧ s.own.state = .none ∧ s.silence.running = false ∧ s.fault.state ≠ .lockout

/-- R54, R55, R153: at the end of a settle the phase becomes RX and the holder is sent SETTLED. The scanner then
listens, a bulletin engine with an ACTIVE window begins reception in HUNT, and TUNE enters TX: with the gate open and
the monitor QUIET the key is asserted, in FALLING the assertion is held back. Without a settle running nothing changes
(log 1, log 30). R150: on GRANTED the claim window becomes ACTIVE and its channel is tuned, or the window is missed
where its entry is not BROADCAST. R152 to R154, R74: what the engine does with each frame record then handed to it: a T
record scores its channel and, in OPEN, is discarded, counted overlong, or taken with the damage it brings, or the part
is dropped where the store has no page; a header opens a part, is filtered or is a duplicate; a header in OPEN closes
the part first. -/
def Obligations.SettleEnd : Prop :=
  (∀ s : State, s.atRest → s.running = true →
     (s.phase ≠ some .settling → exec .settleEnd s = .next s) ∧
     ∀ g, s.arb.grant = some g → g.phase = .settling →
       let r : State := { s with arb := { s.arb with grant := some { g with phase := .rx } } }
       exec .settleEnd s = .next (r.post (.settled g.holder)).settle ∧
       (g.holder = .scan → exec .settleEnd s = .next r) ∧
       (g.holder = .bulletinMandatory ∨ g.holder = .bulletinOrdinary → ∀ w, s.activeWindow = some w →
         exec .settleEnd s = .next { r with bull := { s.bull with recv := some .hunt } }) ∧
       (g.holder = .tune → g.channel.isSome = true → s.gateClosed = false → s.monitor = .falling →
         exec .settleEnd s = .next { r with arb := { s.arb with grant := some { g with phase := .tx } },
                                            tx := { s.tx with heldBack := true } }) ∧
       (g.holder = .tune → g.channel.isSome = true → s.gateClosed = false → s.monitor = .quiet →
         ∃ t, exec .settleEnd s = .next t ∧ t.holder = some .tune ∧ t.phase = some .tx ∧ t.monitor = .rising ∧
           t.keyLine = true ∧ t.watch.blanked = true ∧ t.steady = s.steady)) ∧
  (∀ (s : State) (c : Claimant) (w : Nat), c = .bulletinMandatory ∨ c = .bulletinOrdinary → s.holder = some c →
     s.bull.claim = some w → w < s.windows.length → (s.window w).state = .due → (s.window w).claimant = c →
     let u := s.handle (.granted c)
     let i := (s.window w).channel
     let fits := (s.channel i).valid = true ∧ (s.channel i).role = .broadcast
     (fits → s.phase ≠ some .tx → u.window w = { s.window w with state := .active } ∧ u.grantChannel = some i ∧
       u.phase = some .settling ∧ u.tuner = ⟨(s.channel i).freq, false⟩ ∧ u.tstb = s.tstb + 1 ∧ u.bull = s.bull) ∧
     (¬ fits → u.window w = { s.window w with state := .idle, span := none, missed := min 255 ((s.window w).missed + 1) })) ∧
  ∀ (s : State) (c : Claimant) (w : Nat) (r : FrameRec), c = .bulletinMandatory ∨ c = .bulletinOrdinary → s.holder = some c →
    s.activeWindow = some w →
    let u := s.handle (.frame .transceiver (some c) r)
    let b := s.bull
    let win := s.window w
    (∀ n : Nat, r.kind = some n → n ≠ letterSym 'T' → n ≠ letterSym 'H' → u = s) ∧
    (r.kind = some (letterSym 'T') →
      let scored : State :=
        { s with channels := s.channels.modify win.channel fun x => x.scored (if r.verdict = .good then 1 else -1) }
      let number : Option Nat := match r.payload with
        | .sym x :: .sym y :: _ => if 26 ≤ x ∧ x ≤ 35 ∧ 26 ≤ y ∧ y ≤ 35 then some ((x - 26) * 10 + (y - 26)) else none
        | _ => none
      let text := (r.payload.drop 2).map fun g => match g with
        | .sym x => charOf x
        | .err => 0x3F#8
      (b.recv = none ∨ b.recv = some .hunt → u = scored) ∧
      ∀ e n p, b.recv = some (.open_ e n) → s.store.part = some p →
        (r.verdict = .damaged → u = scored) ∧
        (r.verdict = .good → (∀ k, number = some k → 63 < k) → u = scored) ∧
        ∀ k damage, r.verdict = .good ∧ number = some k ∧ k ≤ 63 ∧ damage = 0 ∨
            r.verdict = .bad ∧ k = number.getD e ∧ damage = text.length →
          let need := (p.text.length + text.length + 63) / 64 - p.pages.length
          (k < e → u = scored) ∧
          (e ≤ k → 31 < k → u = { scored with bull := { b with overlong := min 65535 (b.overlong + 1) } }) ∧
          (e ≤ k → k ≤ 31 → ∀ st, s.store.request s.clock 0 need = some st →
            u.store.part = some { p with text := p.text ++ text, pages := p.pages ++ st.free.take need,
                                         damaged := p.damaged + (32 * (k - e) + damage) } ∧
            u.store.free = st.free.drop need ∧ u.store.slots = st.slots ∧ u.store.age = st.age ∧
            u = { scored with bull := { b with recv := some (.open_ (k + 1) (n + 1)) }, store := u.store, ports := u.ports }) ∧
          (e ≤ k → k ≤ 31 → s.store.request s.clock 0 need = none →
            u.store.part = none ∧ u.store.free = s.store.free ++ p.pages ∧ u.store.slots = s.store.slots ∧
            (∀ q, (u.port q).noticed = (s.port q).noticed ||| 0x1000#16) ∧
            u = { scored with bull := { b with recv := some .hunt, dropped := min 65535 (b.dropped + 1) }, store := u.store,
                              ports := u.ports })) ∧
    (r.kind = some (letterSym 'H') →
      (∀ e n, b.recv = some (.open_ e n) → u = (s.closePart 32).handle (.frame .transceiver (some c) r)) ∧
      (b.recv = none → u = s) ∧
      (b.recv = some .hunt → s.store.part = none →
        (r.verdict ≠ .good → u = s) ∧ (parseHeader r.text = none → u = s) ∧
        ∀ (office : Text) (subject : Byte) (area day hour number count : Nat), r.verdict = .good →
          office.length = 2 → (∀ x ∈ office, isUpper x = true) → subject ∈ [0x46#8, 0x57#8, 0x49#8, 0x4E#8] →
          1 ≤ area → area ≤ 40 → 1 ≤ day → day ≤ 31 → hour ≤ 23 → 1 ≤ number → number ≤ 8 → 1 ≤ count → count ≤ 8 →
          r.text = office ++ [subject] ++ digits 2 area ++ digits 2 day ++ digits 2 hour ++ digits 1 number ++ digits 1 count →
          let key : BulletinKey := ⟨office, subject, area, day, hour⟩
          let held := (s.store.bulletinOf key).map (·.2)
          let accepted := (subject = 0x57#8 ∨ subject ∈ win.subjects) ∧ area ∈ win.areas ∧ number ≤ count ∧
            ∀ x, held = some x → number ≤ x.count
          let clean := ∃ x, held = some x ∧ ∃ y ∈ x.parts, y.number = number ∧ y.damaged = 0
          (¬ accepted → u = { s with bull := { b with filtered := min 65535 (b.filtered + 1) } }) ∧
          (accepted → clean → u = { s with bull := { b with duplicate := min 65535 (b.duplicate + 1) } }) ∧
          (accepted → ¬ clean → u = { s with bull := { b with recv := some (.open_ 0 0) },
                                             store := { s.store with part := some ⟨key, number, count, 0, [], [], none⟩ } })))

/-- R2, R14, R57: while the path sends, the end of a symbol that is not the last counts it and puts the first unit of
the next on air; the end of the last one releases the key, takes the phase back to RX, rests the word on the channel
frequency and reports COMPLETED with the number of symbols sent. The units a symbol still has pass with it, each change
of the tuning word, the return to rest too, presented with a strobe (logs 22 and 48). The model's choices: without a
transmission neither has an effect (log 1); SYMBOL_SENT on the last symbol has none, its end being the other row (logs 1
and 22); and TRANSMISSION_COMPLETED with symbols left sends and counts them (log 3). -/
def Obligations.SymbolsSent : Prop :=
  ∀ s : State, s.atRest → s.running = true →
    let units : Symbol → List Bool := fun n => (List.range 8).map fun k => !(unitsOf n).getMsbD k
    let strobes : List Bool → Nat := fun l => ((s.tuner.space :: l).zip l).countP fun x => decide (x.1 ≠ x.2)
    (s.sending = false → exec .symbolSent s = .next s ∧ exec .transmissionCompleted s = .next s) ∧
    (∀ n m rest, s.sending = true → s.tx.list = n :: m :: rest → ∃ t, exec .symbolSent s = .next t ∧
      t = { s with tx := t.tx, tuner := t.tuner, tstb := t.tstb } ∧ t.tx.list = m :: rest ∧ t.tx.unit = 0 ∧
      t.tx.sent = s.tx.sent + 1 ∧ t.tx.heldBack = s.tx.heldBack ∧ (n = openSym → t.tx.inFrame = true) ∧
      (n = closeSym → t.tx.inFrame = false) ∧ (n ≠ openSym → n ≠ closeSym → t.tx.inFrame = s.tx.inFrame) ∧ t.tuner.freq = s.tuner.freq ∧
      t.tuner.space = !(unitsOf m).msb ∧
      t.tstb = s.tstb + strobes ((units n).drop (s.tx.unit + 1) ++ (units m).take 1)) ∧
    (∀ n, s.sending = true → s.tx.list = [n] → exec .symbolSent s = .next s) ∧
    (∀ g n rest, s.sending = true → s.arb.grant = some g → s.tx.list = n :: rest →
      let passing := (units n).drop (s.tx.unit + 1) ++ rest.flatMap units ++ [false]
      let done : State := { s with tx := TxPath.reset, arb := { s.arb with grant := some { g with phase := .rx } },
                                   tstb := s.tstb + strobes passing }
      (s.monitor = .keyed → exec .transmissionCompleted s =
        .next (({ done with monitor := .falling, tuner := ⟨s.tuner.freq, false⟩,
                            watch := { s.watch with blanked := false } }).post
          (.completed g.holder (s.tx.sent + s.tx.list.length))).settle) ∧
      (s.monitor = .rising → exec .transmissionCompleted s =
        .next (({ done with monitor := .quiet, tuner := ⟨s.tuner.freq, false⟩,
                            watch := { s.watch with blanked := false } }).post
          (.completed g.holder (s.tx.sent + s.tx.list.length))).settle))

/-- R55, R60: the sense line rises and falls, by the monitor's table; where the sense falls in FALLING an assertion held
back is made, the holder is sent KEYED and the watch receiver is blanked. A line that is there already does not move,
and what the cells with a dash leave is the state as it was (log 1). -/
def Obligations.KeySense : Prop :=
  ∀ s : State, s.atRest → s.running = true →
    let on : State := { s with pins := { s.pins with ksns := true } }
    let off : State := { s with pins := { s.pins with ksns := false } }
    (s.pins.ksns = true → exec .keySenseRise s = .next s) ∧ (s.pins.ksns = false → exec .keySenseFall s = .next s) ∧
    (s.pins.ksns = false →
      (s.monitor = .quiet → exec .keySenseRise s = .next { on with monitor := .falling }) ∧
      (s.monitor = .rising → exec .keySenseRise s = .next { on with monitor := .keyed }) ∧
      (s.monitor ≠ .quiet → s.monitor ≠ .rising → exec .keySenseRise s = .next on)) ∧
    (s.pins.ksns = true →
      (s.monitor = .keyed → exec .keySenseFall s = .next { off with monitor := .rising }) ∧
      (s.monitor = .stuck → exec .keySenseFall s = .next { off with monitor := .quiet }) ∧
      (s.monitor = .falling → s.tx.heldBack = false → exec .keySenseFall s = .next { off with monitor := .quiet }) ∧
      (s.monitor = .quiet ∨ s.monitor = .rising → exec .keySenseFall s = .next off) ∧
      (s.monitor = .falling → s.tx.heldBack = true → ∃ u : State, exec .keySenseFall s = .next u.settle ∧
        u.monitor = .rising ∧ u.keyLine = true ∧ u.tx.heldBack = false ∧ u.tx.list = s.tx.list ∧ u.watch.blanked = true ∧
        u.arb = s.arb ∧ (∀ c, s.holder = some c → Signal.keyed c ∈ u.signals) ∧ u.steady = off.steady))

/-- R57, R60 to R63: the response wait and the drop wait run out. The key is dropped, a TX phase ends with KEY_FAULT,
the fault enters the record by the record's state, FAULT is raised on all ports and is a new event of its alarm cause;
entry into LOCKOUT is handed on. In any other state of the monitor nothing changes (log 30). `u` is the state before the
hand-offs. -/
def Obligations.KeyFaults : Prop :=
  ∀ s : State, s.atRest → s.running = true →
    (s.monitor ≠ .rising → exec .keyNoResponse s = .next s) ∧ (s.monitor ≠ .falling → exec .keyStuck s = .next s) ∧
    ∀ (c : Instr) (kind : KeyFaultKind) (after : KeyState),
      (c = .keyNoResponse ∧ kind = .noResponse ∧ s.monitor = .rising ∧ after = .quiet) ∨
        (c = .keyStuck ∧ kind = .stuck ∧ s.monitor = .falling ∧ after = .stuck) →
      let e : FaultEntry := ⟨kind, ⟨s.time.reading, s.time.state⟩, s.holder, s.grantChannel⟩
      ∃ u : State, exec c s = .next u.settle ∧ u.monitor = after ∧ u.keyLine = false ∧
        (s.phase = some .tx → u.phase = some .rx ∧ u.tx = TxPath.reset) ∧
        (s.phase ≠ some .tx → u.phase = s.phase ∧ u.tx = s.tx) ∧ u.holder = s.holder ∧ u.grantChannel = s.grantChannel ∧
        (∀ h, s.phase = some .tx → s.holder = some h → Signal.keyFault h ∈ u.signals) ∧
        (s.fault.state = .none → u.fault = { s.fault with state := .pending, first := some e }) ∧
        (s.fault.state = .pending →
          u.fault = { s.fault with state := .lockout, second := some e } ∧ Signal.gateClosed ∈ u.signals) ∧
        (s.fault.state = .lockout → u.fault = { s.fault with count := min 255 (s.fault.count + 1) }) ∧
        (∀ p, (u.port p).noticed = (s.port p).noticed ||| 0x0004#16) ∧ u.alarm.fault = ⟨true, false⟩ ∧
        u.steady = s.steady

/-! ## Scanner, level sampler, watch receiver (chapter 3) -/

/-- R34, R41, R42 to R44: the scheduled end of a dwell extends it while the phasing count is 1, 2 or 3 and no release is
pending; otherwise the dwell ends: the entry is stamped and scored, a conversion started, and the scanner releases or
tunes the next entry of the scan list, presenting its word with a strobe (R54). In the extension phasing heard, which
sets the dwell's flag, and a phasing count fallen to 0 end the dwell as its scheduled end does. A conversion's result
goes to its entry. Elsewhere neither has an effect (log 1). R42: the next entry of the scan list; the SCAN claim of an
IDLE scanner with the arbiter FREE, its grant, which starts the first dwell, and a claim that is declined. R44: a
release request waits for the dwell's end, and ends an extension at once; REVOKED ends the dwell without its steps, and
IDLE has no current entry and no dwell flag set (log 52). R41: the smoothed level takes the first result, then moves by
a quarter of the difference, rounded away from zero. -/
def Obligations.ScanDwellAndLevel : Prop :=
  ((∀ s : State, s.atRest → s.running = true →
      (s.scanner.state ≠ .dwelling → exec .scanDwellEnd s = .next s) ∧
      (s.scanner.state = .dwelling → s.scanner.extended = false → s.scanner.releasePending = false →
        1 ≤ s.trx.phasing → s.trx.phasing ≤ 3 →
        exec .scanDwellEnd s = .next { s with scanner := { s.scanner with extended := true } }) ∧
      (∀ i, s.scanner.state = .dwelling → s.scanner.current = some i →
        (s.scanner.extended = true ∨ s.scanner.releasePending = true ∨ s.trx.phasing = 0 ∨ 4 ≤ s.trx.phasing) →
        ∃ u : State, exec .scanDwellEnd s = .next u.settle ∧ u.scanner.last = some i ∧
          u.channels = s.channels.modify i (fun c =>
            let d := { c with scanned := some ⟨s.time.reading, s.time.state⟩ }
            if s.scanner.phasing then d.scored 1 else d) ∧
          (s.sampler = none → u.sampler = some ⟨.rlvl, i, .scanDwell s.scanner.phasing, false⟩) ∧
          (s.sampler ≠ none → u.sampler = s.sampler) ∧
          (s.scanner.releasePending = true → s.holder = some .scan → s.phase ≠ some .tx →
            u.scanner.state = .idle ∧ u.scanner.releasePending = false ∧ s.freed u) ∧
          (s.scanner.releasePending = false → ∀ j, nextEntry (some i) u.scanList = some j → s.holder = some .scan →
            s.phase ≠ some .tx →
            u.scanner.state = .dwelling ∧ u.scanner.current = some j ∧ u.scanner.phasing = false ∧ u.holder = some .scan ∧
            u.grantChannel = some j ∧ u.phase = some .settling ∧ u.tuner = ⟨(s.channel j).freq, false⟩ ∧
            u.tstb = s.tstb + 1) ∧
          u.steady = s.steady) ∧
      (s.scanner.extended = true → s.scanner.state = .dwelling →
        exec .scanDwellEnd s = .next (s.handle .scanPhasingGone).settle ∧
        (s.holder = some .scan →
          let heard : State := { s with scanner := { s.scanner with phasing := true } }
          exec .scanDwellEnd heard = .next (s.handle (.phasing .transceiver (some .scan))).settle)) ∧
      (∀ result, s.sampler = none → exec (.levelConversionEnd result) s = .next s) ∧
      ∀ result c, s.sampler = some c →
        (c.void = true ∨ (s.channel c.entry).valid = false →
          exec (.levelConversionEnd result) s = .next { s with sampler := none }) ∧
        (c.void = false → (s.channel c.entry).valid = true → exec (.levelConversionEnd result) s =
          .next { s with sampler := none, channels := s.channels.modify c.entry fun e =>
            let d := { e with last := some result.toNat, smooth := some (smoothed e.smooth result.toNat) }
            if c.cause = .scanDwell false ∧ result.toNat < e.floor then d.scored (-1) else d })) ∧
   ∀ s : State,
     let listed : Nat → Prop := fun i => i < s.channels.length ∧ (s.channel i).valid = true ∧ (s.channel i).role ≠ .distress
     let follows : Option Nat → Nat → Prop := fun last j => listed j ∧
       ((∃ i, last = some i ∧ i < j ∧ ∀ k, listed k → i < k → j ≤ k) ∨
         (∀ i, last = some i → ∀ k, listed k → k ≤ i) ∧ ∀ k, listed k → j ≤ k)
     let mayClaim := s.scanner.state = .idle ∧ s.arb.grant = none ∧ s.arb.waiting = []
     let u := s.handle .scannerCheck
     (∀ last j, nextEntry last s.scanList = some j ↔ follows last j) ∧
     (¬ mayClaim ∨ (∀ i, ¬ listed i) → u = s) ∧
     (∀ j, mayClaim → follows s.scanner.last j → u.scanner = { s.scanner with state := .claiming, current := some j } ∧
       u.holder = some .scan ∧ u.grantChannel = none ∧ u.phase = some .rx ∧ Signal.granted .scan ∈ u.signals ∧
       u.steady = s.steady) ∧
     (s.holder ≠ some .scan → .scan ∉ s.arb.waiting → s.arb.grant ≠ none ∨ s.arb.waiting ≠ [] →
       s.claim .scan = { s with scanner := { s.scanner with state := .idle, current := none } }) ∧
     (∀ i, s.holder = some .scan → s.scanner.current = some i → s.phase ≠ some .tx → (s.channel i).valid = true →
       let t := s.handle (.granted .scan)
       t.scanner = { s.scanner with state := .dwelling, current := some i, phasing := false, extended := false } ∧
       t.holder = some .scan ∧ t.grantChannel = some i ∧ t.phase = some .settling ∧ t.tuner = ⟨(s.channel i).freq, false⟩ ∧
       t.tstb = s.tstb + 1) ∧
     (s.asked .scan = true →
       let pending : State := { s with scanner := { s.scanner with releasePending := true } }
       (s.scanner.extended = false → s.handle (.releaseRequest .scan) = pending) ∧
       (s.scanner.extended = true → s.scanner.state = .dwelling → s.running = true →
         exec .scanDwellEnd pending = .next (s.handle (.releaseRequest .scan)).settle)) ∧
     s.handle (.revoked .scan) = { s with scanner := { s.scanner with state := .idle, current := none, phasing := false,
                                                                      releasePending := false, extended := false } }) ∧
  ∀ (before : Nat) (result : Nat),
    let d : Int := (result : Int) - before
    smoothed none result = result ∧
    ∃ q : Int, (smoothed (some before) result : Int) = before + q ∧
      (0 ≤ d → d ≤ 4 * q ∧ 4 * q < d + 4) ∧ (d < 0 → 4 * q ≤ d ∧ d - 4 < 4 * q)

/-- R45, R46: the end of the watch receiver's settle, of its dwell and of its hold. The last two stamp the watch entry,
start a conversion of WLVL for it where the sampler is IDLE, and step to the next entry of the watch list, tuned and
settling, its word presented with a strobe (log 48); with none left the receiver is IDLE, which is no path break (log
41) and leaves WTUNE as it was (log 53). In other states they have no effect (log 30), nor has the expiry of a dwell
that a step has replaced, which comes in the elapsed second of the tune (R47, log 51). R45: the next entry of the watch
list. R46: phasing heard takes a DWELLING receiver to HELD. R47: the assertion of the key line blanks the receiver and
breaks its path; a hold ends with it, the entry stamped and the next one stepped to, and no other state changes; its
release ends the blanking. -/
def Obligations.WatchReceiverSteps : Prop :=
  (∀ s : State, s.atRest → s.running = true →
     (s.watch.state = .settling → exec .watchSettleEnd s = .next { s with watch := { s.watch with state := .dwelling } }) ∧
     (s.watch.state ≠ .settling → exec .watchSettleEnd s = .next s) ∧
     (s.watch.state = .idle ∨ s.watch.state = .held ∨ s.time.elapsed = s.watch.since → exec .watchDwellEnd s = .next s) ∧
     (s.watch.state ≠ .held → exec .watchHoldExpiry s = .next s) ∧
     ∀ (c : Instr) (i : Nat), s.watch.entry = some i →
       (c = .watchDwellEnd ∧ (s.watch.state = .settling ∨ s.watch.state = .dwelling) ∧ s.time.elapsed ≠ s.watch.since) ∨
         (c = .watchHoldExpiry ∧ s.watch.state = .held) →
       ∃ t, exec c s = .next t ∧
         t.channels = s.channels.modify i (fun e => { e with scanned := some ⟨s.time.reading, s.time.state⟩ }) ∧
         (s.sampler = none → t.sampler = some ⟨.wlvl, i, .watchDwell, false⟩) ∧
         (s.sampler ≠ none → t.sampler = s.sampler) ∧
         (∀ j, nextEntry (some i) s.watchList = some j →
           t.watch = { s.watch with state := .settling, entry := some j, word := (s.channel j).freq, since := s.time.elapsed } ∧
           t.wstb = s.wstb + 1 ∧
           t.watchPath.tracker.locked = false ∧ t.watchPath.phasing = 0 ∧ t.watchPath.body = none) ∧
         (nextEntry (some i) s.watchList = none → t.watch = { s.watch with state := .idle, entry := none } ∧
           t.wstb = s.wstb ∧ t.watchPath = s.watchPath) ∧
         t = { s with channels := t.channels, sampler := t.sampler, watch := t.watch, wstb := t.wstb, watchPath := t.watchPath }) ∧
  ∀ s : State,
    let listed : Nat → Prop := fun i => i < s.channels.length ∧ (s.channel i).valid = true ∧ (s.channel i).role = .distress
    let follows : Option Nat → Nat → Prop := fun last j => listed j ∧
      ((∃ i, last = some i ∧ i < j ∧ ∀ k, listed k → i < k → j ≤ k) ∨
        (∀ i, last = some i → ∀ k, listed k → k ≤ i) ∧ ∀ k, listed k → j ≤ k)
    let t := s.assertKey
    (∀ last j, nextEntry last s.watchList = some j ↔ follows last j) ∧
    (∀ h, s.handle (.phasing .watch h) =
      if s.watch.state = .dwelling then { s with watch := { s.watch with state := .held } } else s) ∧
    t.watch.blanked = true ∧ t.watchPath.tracker.locked = false ∧ t.watchPath.phasing = 0 ∧ t.watchPath.body = none ∧
    (s.watch.state ≠ .held → t.watch = { s.watch with blanked := true } ∧ t.channels = s.channels ∧ t.wstb = s.wstb) ∧
    (∀ i, s.watch.state = .held → s.watch.entry = some i →
      t.channels = s.channels.modify i (fun e => { e with scanned := some ⟨s.time.reading, s.time.state⟩ }) ∧
      t.sampler = s.sampler ∧
      (∀ j, nextEntry (some i) s.watchList = some j → t.wstb = s.wstb + 1 ∧
        t.watch = { s.watch with blanked := true, state := .settling, entry := some j, word := (s.channel j).freq,
                                 since := s.time.elapsed }) ∧
      (nextEntry (some i) s.watchList = none →
        t.watch = { s.watch with blanked := true, state := .idle, entry := none } ∧ t.wstb = s.wstb)) ∧
    (s.monitor = .rising ∨ s.monitor = .keyed → s.releaseKey.watch = { s.watch with blanked := false })

/-! ## Reception (chapters 1 and 3) -/

/-- R3, R47, R54: a path that is blanked, untuned, settling or keyed drops its groups. R6, R37, R38: a tracker in SEARCH
counts the phasing run, FILL aside; any group but PHASE_A and PHASE_B makes the next begin one unit later; the run's
fourth symbol locks the tracker and raises phasing heard. In the extension of a scan dwell a group that leaves the
phasing count at 0 is followed by the end of the dwell (R43). The boundary as a number of eighths: log 7. Which states
of a path take groups stands spelt out. -/
def Obligations.GroupsInSearch : Prop :=
  (∀ (s : State) (p : Path) (b : Byte), s.atRest → s.running = true →
     (s.receiving p = false → exec (.symbolGroup p b) s = .next s) ∧
     (s.receiving p = true → (s.path p).tracker.locked = false →
       let dwells : State → State := fun x =>
         if x.scanner.extended = true ∧ x.trx.phasing = 0 then (x.post .scanPhasingGone).settle else x
       let r := s.path p
       let later : RxPath := { r with tracker := { r.tracker with boundary := (r.tracker.boundary + 8) % 64 } }
       (decodeUnits b = .sym fillSym → exec (.symbolGroup p b) s = .next (dwells (s.setPath p later))) ∧
       ((decodeUnits b = .err ∨ ∃ n, decodeUnits b = .sym n ∧ n ≠ phaseA ∧ n ≠ phaseB ∧ n ≠ fillSym) →
         exec (.symbolGroup p b) s = .next (dwells (s.setPath p { later with phasing := 0 }))) ∧
       ∀ n, decodeUnits b = .sym n → n = phaseA ∨ n = phaseB →
         let run := if r.phasing = 0 ∨ r.lastPhase ≠ some n then min 4 (r.phasing + 1) else 1
         let after : RxPath := { r with phasing := run, lastPhase := some n }
         (run < 4 ∨ 4 ≤ r.phasing → exec (.symbolGroup p b) s = .next (dwells (s.setPath p after))) ∧
         (run = 4 → r.phasing < 4 →
           let locked : RxPath := { after with tracker := { r.tracker with locked := true, history := [], errRun := 0 } }
           (p = .watch → let x := (s.setPath p locked).post (.phasing p none)
             exec (.symbolGroup p b) s =
               .next (if s.scanner.extended = true ∧ s.trx.phasing = 0 then x.post .scanPhasingGone else x).settle) ∧
           (p = .transceiver → ∀ g, s.arb.grant = some g → g.channel.isSome = true →
             exec (.symbolGroup p b) s = .next ((s.setPath p locked).post (.phasing p (some g.holder))).settle) ∧
           (p = .transceiver → s.grantChannel = none → exec (.symbolGroup p b) s = .next (s.setPath p locked))))) ∧
  ∀ s : State,
    (s.receiving .transceiver = true ↔ s.running = true ∧ s.monitor ≠ .rising ∧ s.monitor ≠ .keyed ∧
      s.phase ≠ some .settling) ∧
    (s.receiving .watch = true ↔ s.running = true ∧ s.watch.blanked = false ∧
      (s.watch.state = .dwelling ∨ s.watch.state = .held))

/-- R7, R8, R10, R11, R12, R38, R39: a tracker in LOCKED counts weight errors, and a group of three marks ends their
run; FILL is removed. In HUNT, OPEN begins a frame on a path with a family, and text and CLOSE are nothing to it. In a
frame, text symbols and weight errors join the body up to the family's limit, one past it ends the frame BAD with reason
FORM (log 15), CLOSE ends it, hands its record on, stamps the entry's last good frame (R40) and starts a conversion
(R41), and OPEN, a phasing symbol, TURN or CLEAR end it DAMAGED, OPEN beginning the next; an empty body that is cut is
discarded. TURN, and the second of two CLEARs, are handed on, in a frame too. A phasing symbol moves the phasing run,
whose fourth raises phasing heard; any other group ends it, and any but CLEAR the clear-pending flag. The fourth weight
error in a row loses lock, and what the frame in progress holds is handed on DAMAGED (the first three errors are part of
it, the fourth is not: log 14). In the extension of a scan dwell a phasing count of 0 is followed by the end of the
dwell (R43). `u` is the state before the hand-offs. R9, R11, R12: the record of a frame that reached its CLOSE, field by
field: WEIGHT, FORM with each family's lengths, CHECK against the check word of R4 and R5, else GOOD; its kind is the
first symbol as it stands (log 16). A DAMAGED record has all after its fixed positions as payload; the record of an
overlong body, held up to the limit, is laid out as at CLOSE (log 15). R1, R3: a group of three marks is the symbol of
its rank among such groups. R12: the family of a path. -/
def Obligations.GroupsInLock : Prop :=
  (∀ (s : State) (p : Path) (b : Byte), s.atRest → s.running = true → s.receiving p = true →
     (s.path p).tracker.locked = true →
     let r := s.path p
     let now : Stamp := ⟨s.time.reading, s.time.state⟩
     let dwells : State → State := fun x =>
       if x.scanner.extended = true ∧ x.trx.phasing = 0 then (x.post .scanPhasingGone).settle else x
     let leads : State → Prop := fun u =>
       exec (.symbolGroup p b) s = .next u.settle ∧ u.steady = s.steady ∧
       (u.scanner.extended = true → u.trx.phasing = 0 → Signal.scanPhasingGone ∈ u.signals)
     let sound : RxPath := { r with tracker := { r.tracker with errRun := 0 } }
     let plain : RxPath := { sound with phasing := 0, clearPending := false }
     let counted : RxPath :=
       { r with tracker := { r.tracker with errRun := r.tracker.errRun + 1 }, phasing := 0, clearPending := false }
     let heard : (Option Claimant → Signal) → State → Prop := fun event u =>
       (p = .watch → event none ∈ u.signals) ∧
       (p = .transceiver → ∀ g, s.arb.grant = some g → g.channel.isSome = true → event (some g.holder) ∈ u.signals)
     let run : Nat → Nat := fun n => if r.phasing = 0 ∨ r.lastPhase ≠ some n then min 4 (r.phasing + 1) else 1
     let phased : Nat → RxPath := fun n => { sound with phasing := run n, lastPhase := some n, clearPending := false }
     let cut : Family → List Group → State → Prop := fun f body u =>
       (body ≠ [] → heard (fun h => .frame p h (cutRecord f body false now)) u) ∧
       (body = [] → ∀ h x, Signal.frame p h x ∉ u.signals)
     (decodeUnits b = .sym fillSym → exec (.symbolGroup p b) s = .next (dwells (s.setPath p sound))) ∧
     (decodeUnits b = .err → 3 ≤ r.tracker.errRun → ∃ u : State, leads u ∧
       (u.path p).tracker.locked = false ∧ (u.path p).tracker.errRun = 0 ∧ (u.path p).tracker.history = [] ∧
       (u.path p).phasing = 0 ∧ (u.path p).clearPending = false ∧ (u.path p).body = none ∧
       (∀ f body, s.family p = some f → r.body = some body → cut f body u) ∧ (p = .transceiver → heard .lockLost u)) ∧
     (r.body = none ∨ s.family p = none →
       (decodeUnits b = .err → r.tracker.errRun < 3 → exec (.symbolGroup p b) s = .next (dwells (s.setPath p counted))) ∧
       (∀ n, decodeUnits b = .sym n → n ≤ 48 ∨ n = closeSym → exec (.symbolGroup p b) s = .next (dwells (s.setPath p plain))) ∧
       (∀ f, s.family p = some f → decodeUnits b = .sym openSym →
         exec (.symbolGroup p b) s = .next (dwells (s.setPath p { plain with body := some [] }))) ∧
       (s.family p = none → decodeUnits b = .sym openSym → exec (.symbolGroup p b) s = .next (dwells (s.setPath p plain))) ∧
       (∀ n, decodeUnits b = .sym n → n = phaseA ∨ n = phaseB →
         (run n < 4 ∨ 4 ≤ r.phasing → exec (.symbolGroup p b) s = .next (dwells (s.setPath p (phased n)))) ∧
         (run n = 4 → r.phasing < 4 → ∃ u : State, leads u ∧ u.path p = phased n ∧ heard (.phasing p) u)) ∧
       (decodeUnits b = .sym turnSym → ∃ u : State, leads u ∧ u.path p = plain ∧ heard (.turn p) u) ∧
       (decodeUnits b = .sym clearSym → r.clearPending = false →
         exec (.symbolGroup p b) s = .next (dwells (s.setPath p { plain with clearPending := true }))) ∧
       (decodeUnits b = .sym clearSym → r.clearPending = true →
         ∃ u : State, leads u ∧ u.path p = plain ∧ heard (.clear p) u)) ∧
     ∀ f body, r.body = some body → s.family p = some f →
       (∀ n, decodeUnits b = .sym n → n ≤ 48 → body.length + 1 ≤ f.limit →
         exec (.symbolGroup p b) s = .next (dwells (s.setPath p { plain with body := some (body ++ [.sym n]) }))) ∧
       (decodeUnits b = .err → r.tracker.errRun < 3 → body.length + 1 ≤ f.limit →
         exec (.symbolGroup p b) s = .next (dwells (s.setPath p { counted with body := some (body ++ [.err]) }))) ∧
       (∀ n, decodeUnits b = .sym n → n ≤ 48 → f.limit < body.length + 1 → ∃ u : State, leads u ∧
         u.path p = { plain with body := none } ∧ heard (fun h => .frame p h (cutRecord f body true now)) u) ∧
       (decodeUnits b = .err → r.tracker.errRun < 3 → f.limit < body.length + 1 → ∃ u : State, leads u ∧
         u.path p = { counted with body := none } ∧ heard (fun h => .frame p h (cutRecord f body true now)) u) ∧
       (decodeUnits b = .sym closeSym → ∃ u : State, leads u ∧
         u.path p = { plain with body := none } ∧ heard (fun h => .frame p h (closedRecord f body now)) u ∧
         (∀ i, p = .watch ∧ s.watch.entry = some i ∨ p = .transceiver ∧ s.grantChannel = some i → u.channels =
           if (closedRecord f body now).verdict = .good then s.channels.modify i (fun c => { c with good := some now })
           else s.channels) ∧
         (∀ i, p = .transceiver → s.grantChannel = some i → s.sampler = none →
           u.sampler = some ⟨.rlvl, i, .frameClose, false⟩)) ∧
       (decodeUnits b = .sym openSym → ∃ u : State, leads u ∧ u.path p = { plain with body := some [] } ∧ cut f body u) ∧
       (∀ n, decodeUnits b = .sym n → n = phaseA ∨ n = phaseB → ∃ u : State, leads u ∧
         u.path p = { phased n with body := none } ∧ cut f body u ∧ (run n = 4 → r.phasing < 4 → heard (.phasing p) u)) ∧
       (decodeUnits b = .sym turnSym → ∃ u : State, leads u ∧ u.path p = { plain with body := none } ∧ cut f body u ∧
         heard (.turn p) u) ∧
       (decodeUnits b = .sym clearSym → r.clearPending = false → ∃ u : State, leads u ∧
         u.path p = { plain with body := none, clearPending := true } ∧ cut f body u) ∧
       (decodeUnits b = .sym clearSym → r.clearPending = true → ∃ u : State, leads u ∧
         u.path p = { plain with body := none } ∧ cut f body u ∧ heard (.clear p) u)) ∧
  (∀ (f : Family) (body : List Group) (t : Stamp),
     let n := body.length
     let number : Nat → Option Nat := fun i => match body[i]? with
       | some (.sym x) => some x
       | _ => none
     let value := (number (n - 3)).getD 0 * 2304 + (number (n - 2)).getD 0 * 48 + (number (n - 1)).getD 0
     let covered := (List.range (n - 3)).map fun i => (number i).getD 0
     let spelt := ∀ i, i < n → n ≤ i + 3 → ∃ x, number i = some x ∧ x ≤ 47
     let ranged := match f with
       | .link => 5 ≤ n ∧ n ≤ 21
       | .alert => 5 ≤ n ∧ n ≤ 52
       | .bulletin => 4 ≤ n ∧ n ≤ 38 ∧ (number 0 = some 7 → n = 15) ∧ (number 0 = some 19 → 6 ≤ n)
     let formed := ranged ∧ (∃ x, number 0 = some x ∧ x ≤ 25) ∧
       (f = .link → ∃ x, number 1 = some x ∧ 26 ≤ x ∧ x ≤ 33) ∧ spelt
     let fixed := if f = .link then 2 else 1
     let r := closedRecord f body t
     r.family = f ∧ r.received = t ∧ r.kind = number 0 ∧ (f ≠ .link → r.sequence = none) ∧
     (∀ d, f = .link → (r.sequence = some d ↔ d ≤ 9 ∧ number 1 = some (26 + d))) ∧
     (.err ∈ body → r.verdict = .bad ∧ r.reason = some .weight) ∧
     (.err ∉ body → ¬ formed → r.verdict = .bad ∧ r.reason = some .form) ∧
     (.err ∉ body → formed → value ≠ (checkOver covered).toNat → r.verdict = .bad ∧ r.reason = some .check) ∧
     (.err ∉ body → formed → value = (checkOver covered).toNat → r.verdict = .good ∧ r.reason = none) ∧
     (n < fixed + 3 → r.payload = body.drop fixed ∧ r.check = none) ∧
     (fixed + 3 ≤ n → r.payload = (body.take (n - 3)).drop fixed ∧ (spelt → r.check = some value) ∧
       (¬ spelt → r.check = none)) ∧
     cutRecord f body false t = { family := f, verdict := .damaged, reason := none, kind := r.kind, sequence := r.sequence,
                                  payload := body.drop fixed, check := none, received := t } ∧
     cutRecord f body true t = { r with verdict := .bad, reason := some .form }) ∧
  (∀ b : Byte,
     let marks : Nat → Nat := fun x => ((List.range 8).filter fun i => x.testBit i).length
     decodeUnits b = if marks b.toNat = 3 then .sym ((List.range b.toNat).filter fun x => decide (marks x = 3)).length
       else .err) ∧
  [phaseA, phaseB, openSym, closeSym, turnSym, clearSym, fillSym] = [49, 50, 51, 52, 53, 54, 55] ∧
  [Family.link, .bulletin, .alert].map Family.limit = [21, 38, 52] ∧
  (∀ c : Char, letterSym c = c.toNat - 0x41) ∧ (∀ n, n < 49 → charOf n = airAlphabet.getD n 0) ∧
  ∀ s : State, s.family .watch = some .alert ∧ s.family .transceiver = match s.holder with
    | some .link => some .link
    | some .bulletinMandatory => some .bulletin
    | some .bulletinOrdinary => some .bulletin
    | _ => none

/-- The model's choice (log 3): a row that names what a run of groups brings about is that run, each group a
SYMBOL_GROUP step: for FRAME_RECORD the groups given, for PHASING_HEARD the phasing still missing to a run of four, for
TURN_RECEIVED and CLEAR_RECEIVED in LOCKED the TURN or the CLEARs still missing, for LOSS_OF_LOCK in LOCKED the weight
errors still missing to four. On the watch path the first takes a DWELLING receiver to HELD (R46), the last the tracker
to SEARCH (R39). -/
def Obligations.RowsOfGroups : Prop :=
  ∀ (s : State) (p : Path), s.atRest → s.running = true →
    (∀ groups, exec (.frameRecord p groups) s = .next (s.afterGroups p groups)) ∧
    (∃ l, l.length = 4 - (s.path p).phasing ∧ (∀ b ∈ l, b = unitsOf phaseA ∨ b = unitsOf phaseB) ∧
      exec (.phasingHeard p) s = .next (s.afterGroups p l)) ∧
    ((s.path p).tracker.locked = false → exec (.turnReceived p) s = .next s ∧ exec (.clearReceived p) s = .next s ∧
      exec (.lossOfLock p) s = .next s) ∧
    ((s.path p).tracker.locked = true →
      exec (.turnReceived p) s = .next (s.afterGroups p [unitsOf turnSym]) ∧
      exec (.clearReceived p) s = .next (s.afterGroups p
        (if (s.path p).clearPending then [unitsOf clearSym] else [unitsOf clearSym, unitsOf clearSym])) ∧
      exec (.lossOfLock p) s = .next (s.afterGroups p (List.replicate (4 - (s.path p).tracker.errRun) 0#8))) ∧
    (s.watch.state = .dwelling → s.watch.blanked = false → s.scanner.extended = false → s.watchPath.phasing < 4 →
      ∃ t, exec (.phasingHeard .watch) s = .next t ∧ t.watch = { s.watch with state := .held } ∧
        t.watchPath.phasing = 4 ∧ t.watchPath.tracker.locked = true) ∧
    (s.receiving .watch = true → s.scanner.extended = false → s.watchPath.tracker.locked = true →
      s.watchPath.tracker.errRun < 4 → ∃ t, exec (.lossOfLock .watch) s = .next t ∧ t.watchPath.tracker.locked = false ∧
        t.watchPath.body = none ∧ t.watchPath.phasing = 0 ∧ t.watch = s.watch)

/-- R37, R38: a transition of the line ends a run. In SEARCH edges and boundary move by its error; in LOCKED a run over
10 units counts as a long run, and any other enters its error in the history, whose mean, once it holds sixteen and the
mean exceeds 2 eighths, moves edges and boundary by the mean to the nearest eighth (either one at a tie: log 10) and
empties the history. TRACKER_PHASE_CORRECTION is that last case and nothing else (log 1). The run's length is the
operand of the row (log 21), the edges and the boundary count eighths modulo 8 and 64 (log 7), and a transition moves a
blanked or keyed path too (log 28). -/
def Obligations.LineTransitions : Prop :=
  ∀ (s : State) (p : Path) (e : Int) (units : Nat), s.atRest → s.running = true →
    let t := (s.path p).tracker
    let run := 8 * t.runOver + t.runUnits + units
    let entered := (if 16 ≤ t.history.length then t.history.drop 1 else t.history) ++ [e]
    let corrects := t.locked = true ∧ run ≤ 10 ∧ entered.length = 16 ∧ (32 < entered.sum ∨ entered.sum < -32)
    let put : Tracker → State := fun x => s.setPath p { s.path p with tracker := { x with runUnits := 0, runOver := 0 } }
    (t.locked = false → exec (.lineTransition p e units) s =
      .next (put { t with edge := ((t.edge + e) % 8).toNat, boundary := ((t.boundary + e) % 64).toNat })) ∧
    (t.locked = true → 10 < run → exec (.lineTransition p e units) s =
      .next (put { t with longRuns := min 255 (t.longRuns + 1) })) ∧
    (t.locked = true → run ≤ 10 → ¬ corrects →
      exec (.lineTransition p e units) s = .next (put { t with history := entered })) ∧
    (¬ corrects → exec (.trackerPhaseCorrection p e units) s = .next s) ∧
    (corrects → ∃ mean : Int, 16 * mean - entered.sum ≤ 8 ∧ -8 ≤ 16 * mean - entered.sum ∧
      ∀ c, c = Instr.lineTransition p e units ∨ c = Instr.trackerPhaseCorrection p e units →
        exec c s = .next { put { t with edge := ((t.edge + mean) % 8).toNat, boundary := ((t.boundary + mean) % 64).toNat,
                                        history := [] } with freeCount := s.freeCount + 1 })

/-! ## Waits of the link and bulletin engines (chapters 8 and 9) -/

/-- R127, R133, R142, R143: the answer wait runs out: a score of −4 for the channel, then another call on it, or the
next channel of the order with call try 1, or NO_ANSWER. The phasing wait runs out: −3, one more silent turn, and the
link ends at the second in CLEARING or the third otherwise, else a burst is composed, the quiet turn of a silent one
being no D frame (log 23). A wait that does not run delivers nothing (log 30). `u` is the state before the hand-offs.
R125: when the link engine starts, and for which station. R36: the station channel order. R126, R127, R131, R140: how
the link engine takes GRANTED, SETTLED, TUNE_REFUSED, COMPLETED, a release request, REVOKED and KEY_FAULT, which ends
the link also while it is ending (log 34). R127, R128, R132, R143: how it takes a frame record: its score, K and B for a
call, and a reply kept for the end of the coast burst. R129 to R131, R138, R139, R72: how a connected burst is composed:
the message taken up, the last burst's L, the receipts owed, the frames cut while there is room, and the symbols of each
frame. R13, R122: the symbols of a link frame, with its check digits, and of a burst. R142: NO_ANSWER, BUSY, LINK_LOST,
CLEARED and an abandonment are each the one operation that ends a link, with that cause (see TurnWaitAndSymbolWait). -/
def Obligations.UnansweredCallsAndSilentTurns : Prop :=
  (∀ (s : State) (i : Nat), s.atRest → s.running = true → s.link.channel = some i →
     let l := s.link
     (l.answerWait = false → exec .answerWaitExpiry s = .next s) ∧
     (l.phasingWait = false → exec .phasingWaitExpiry s = .next s) ∧
     (l.answerWait = true →
       (l.callTry < 3 → s.holder = some .link → s.phase = some .rx → s.grantChannel.isSome = true → s.gateClosed = false →
         s.monitor = .quiet → s.tx.list = [] →
         ∃ u : State, exec .answerWaitExpiry s = .next u.settle ∧
           (s.watch.state ≠ .held → u.channels = s.channels.modify i (fun c => c.scored (-4))) ∧
           u.link = { l with answerWait := false, turnWait := false, callTry := l.callTry + 1, state := .calling } ∧
           u.phase = some .tx ∧ u.monitor = .rising ∧
           u.tx.list = burst [linkFrame 'C' 0 (l.station.getD [] ++ [0x20#8] ++ s.ident.vessel)] ∧ u.steady = s.steady) ∧
       (∀ j, 3 ≤ l.callTry → l.order[l.index]? = some j → ∃ u : State, exec .answerWaitExpiry s = .next u.settle ∧
         u.channels = s.channels.modify i (fun c => c.scored (-4)) ∧
         u.link = { l with answerWait := false, turnWait := false, state := .settling, channel := some j,
                           index := l.index + 1, callTry := 1 } ∧
         (s.holder = some .link → s.phase ≠ some .tx → (s.channel j).valid = true →
           u.grantChannel = some j ∧ u.phase = some .settling ∧ u.tuner = ⟨(s.channel j).freq, false⟩) ∧
         u.steady = s.steady) ∧
       (3 ≤ l.callTry → l.order[l.index]? = none → ∃ u : State, exec .answerWaitExpiry s = .next u.settle ∧
         u = State.endLink { s with channels := s.channels.modify i (fun c => c.scored (-4)),
                                    link := { l with answerWait := false, turnWait := false } } .noAnswer ∧
         u.channels = s.channels.modify i (fun c => c.scored (-4)) ∧
         u.link = Link.reset ∧ u.inbound.mode = .header ∧ u.inbound.current = none ∧
         (s.holder = some .link → s.freed u) ∧ Signal.linkTest ∈ u.signals ∧ u.steady = s.steady)) ∧
     (l.phasingWait = true →
       ((l.state = .clearing ∧ 1 ≤ l.silent ∨ l.state ≠ .clearing ∧ 2 ≤ l.silent) →
         ∃ u : State, exec .phasingWaitExpiry s = .next u.settle ∧ u.link = Link.reset ∧
           u = State.endLink { s with channels := s.channels.modify i (fun c => c.scored (-3)),
                                      link := { l with phasingWait := false, turnWait := false, silent := l.silent + 1 } }
             (if l.state = .clearing then .cleared else .linkLost) ∧
           u.channels = s.channels.modify i (fun c => c.scored (-3)) ∧ (s.holder = some .link → s.freed u) ∧
           u.steady = s.steady) ∧
       ((l.state = .clearing ∧ l.silent = 0 ∨ l.state ≠ .clearing ∧ l.silent < 2) →
         exec .phasingWaitExpiry s = .next (State.compose { s with
           channels := s.channels.modify i (fun c => c.scored (-3)),
           link := { l with phasingWait := false, turnWait := false, silent := l.silent + 1 } } true).settle))) ∧
  (∀ (s : State) (l : List Symbol), s.holder = some .link → s.phase = some .rx → s.grantChannel.isSome = true →
     let u := (s.txRequest .link).offer .link l
     (s.gateClosed = true → u = s.post (.blocked .link)) ∧
     (s.gateClosed = false → s.tx.list = [] → u.phase = some .tx ∧ u.tx.list = l ∧ u.link = s.link ∧
       u.tx.heldBack = decide (s.monitor = .falling) ∧
       u.monitor = (match s.monitor with | .quiet => .rising | .stuck => .keyed | m => m) ∧
       (s.monitor ≠ .falling → Signal.keyed .link ∈ u.signals) ∧ u.steady = s.steady)) ∧
  (∀ s : State, s.holder = some .link →
     let l := s.link
     let order := (s.stationOrder (l.station.getD [])).take 4
     let onto : State → Nat → Prop := fun u i => s.phase ≠ some .tx → (s.channel i).valid = true →
       u.grantChannel = some i ∧ u.phase = some .settling ∧ u.tuner = ⟨(s.channel i).freq, false⟩
     (l.state = .waitGrant →
       let u := s.handle (.granted .link)
       (∀ i rest, order = i :: rest → onto u i ∧ u.steady = s.steady ∧
         u.link = { l with order := order, state := .settling, channel := some i, index := 1, callTry := 1 }) ∧
       (order = [] → u = State.endLink { s with link := { l with order := [] } } .noAnswer ∧
         u.link = Link.reset ∧ s.freed u ∧ u.steady = s.steady)) ∧
     (l.state = .settling →
       s.handle (.settled .link) = (({ s with link := { l with state := .calling } }).txRequest .link).offer .link
         (burst [linkFrame 'C' 0 (l.station.getD [] ++ [0x20#8] ++ s.ident.vessel)]) ∧
       (∀ i, l.order[l.index]? = some i →
         let u := s.handle (.tuneRefused .link)
         onto u i ∧ u.link = { l with state := .settling, channel := some i, index := l.index + 1, callTry := 1 }) ∧
       (l.order[l.index]? = none → s.handle (.tuneRefused .link) = s.endLink .noAnswer)) ∧
     (∀ n, l.ending = false →
       (l.state = .calling → s.handle (.completed .link n) = { s with link := { l with answerWait := true, turnWait := true } }) ∧
       (l.state = .sendBurst → s.handle (.completed .link n) =
         { s with link := { l with state := .awaitReply, owed := l.owed.drop l.placed, placed := 0, phasingWait := true,
                                   turnWait := true, replies := [] } }) ∧
       (l.state = .clearing → s.handle (.completed .link n) =
         { s with link := { l with owed := l.owed.drop l.placed, placed := 0, phasingWait := true, turnWait := true,
                                   replies := [] } })) ∧
     (∀ g n, l.state ≠ .idle → g = Signal.keyFault .link ∨ g = .completed .link n ∧ l.ending = true ∨
         g = .releaseRequest .link ∧ s.asked .link = true ∧ l.ending = false ∧ s.phase ≠ some .tx →
       let u := s.handle g
       u = s.endLink .abandoned ∧ u.link = Link.reset ∧ s.freed u ∧ u.inbound.mode = .header ∧ u.inbound.current = none ∧ Signal.linkTest ∈ u.signals ∧
       (∀ m o, l.current = some m → s.outbound m = some o → o.state = .sending →
         u.outbound m = some { o with state := .queued, retry := none }) ∧ u.steady = s.steady) ∧
     (s.asked .link = true → l.state ≠ .idle → s.phase = some .tx → s.tx.list ≠ [] → s.tx.heldBack = false →
       (l.ending = true → s.handle (.releaseRequest .link) = s) ∧
       (l.ending = false → s.handle (.releaseRequest .link) =
         { s with link := { l with ending := true }, tx := { s.tx with list := s.tx.trimmed } }))) ∧
  (∀ s : State, s.link.state ≠ .idle →
     let u := s.handle (.revoked .link)
     u = s.endLink .abandoned ∧ u.link = Link.reset ∧ u.inbound.mode = .header ∧ u.inbound.current = none ∧ Signal.linkTest ∈ u.signals ∧
     ∀ m o, s.link.current = some m → s.outbound m = some o → o.state = .sending →
       u.outbound m = some { o with state := .queued, retry := none }) ∧
  (∀ (s : State) (r : FrameRec) (i : Nat), s.holder = some .link → s.link.channel = some i →
     let l := s.link
     let u := s.handle (.frame .transceiver (some .link) r)
     let scored : State := match r.verdict with
       | .good => { s with channels := s.channels.modify i fun c => c.scored 2 }
       | .bad => { s with channels := s.channels.modify i fun c => c.scored (-2) }
       | .damaged => s
     let accepts := r.verdict = .good ∧ r.kind = some (letterSym 'K') ∧ groupText r.payload = s.ident.vessel
     let busy := r.verdict = .good ∧ r.kind = some (letterSym 'B') ∧ r.payload = []
     (l.state = .calling → l.answerWait = true → accepts → u =
       { scored with link := { l with connected := true, answerWait := false, sendNext := 0, recvNext := 0, silent := 0,
                                      quiet := 0, outstanding := [], owed := [], setAside := [] } }) ∧
     (l.state = .calling → l.answerWait = true → busy →
       u = State.endLink { scored with link := { l with answerWait := false, turnWait := false } } .busy ∧
       u.link = Link.reset ∧ s.freed u ∧ u.channels = scored.channels ∧ Signal.linkTest ∈ u.signals) ∧
     (l.state = .calling → (l.answerWait = false ∨ ¬ accepts ∧ ¬ busy) → u = scored) ∧
     (l.state = .awaitReply ∨ l.state = .clearing →
       u = if l.turnWait then { scored with link := { l with replies := l.replies ++ [r] } } else scored) ∧
     (l.state ≠ .calling → l.state ≠ .awaitReply → l.state ≠ .clearing → u = scored)) ∧
  (∀ (s : State) (noD : Bool),
     let l := s.link
     let due : Nat → Bool := fun n => match s.outbound n with
       | some o => decide (o.state = .queued ∧ o.retry = none ∧ o.dest = l.station.getD [] ∧ n ∉ l.setAside)
       | none => false
     let v := s.takeUp
     (l.current.isSome = true ∨ s.queue.entries.find? due = none → v = s) ∧
     (∀ n o, l.current = none → s.queue.entries.find? due = some n → s.outbound n = some o →
       v.outbound n = some { o with state := .sending } ∧
       v.link = { l with current := some n, requests := 0, notHeld := 0, cut := o.resume,
                         mDue := decide (0 < o.resume ∧ o.resume < 9 + (decimal o.text.length).length + o.text.length) } ∧
       v = { s with store := { s.store with slots := v.store.slots }, link := v.link }) ∧
     ((∃ e ∈ l.outstanding, 6 ≤ e.sends) → s.compose noD = s.endLink .linkLost) ∧
     ((∀ e ∈ l.outstanding, e.sends < 6) → ∀ last : Bool,
       (last = true ↔ v.link.current = none ∧ l.outstanding = [] ∧ noD = true ∧
         (l.state = .clearing ∨ l.state = .awaitReply ∧ (s.inbound.mode ≠ .body ∨ l.quiet = 2))) →
       let k := min l.owed.length (5 - l.outstanding.length - if last then 1 else 0)
       let x := if last then v else v.addFrames k 4
       let frames := [linkFrame 'A' 0 (decimal l.recvNext)] ++
         (l.owed.take k).map (fun q => linkFrame (if q.2 then 'Q' else 'N') 0 (digits 4 q.1)) ++
         if last then [linkFrame 'L' 0 []] else x.link.outstanding.map x.outstandingFrame
       let sent : State := { x with link := { x.link with
         outstanding := x.link.outstanding.map fun e => { e with sends := e.sends + 1 }, placed := k, replies := [],
         phasingWait := false, turnWait := false, state := if last then .clearing else .sendBurst } }
       s.compose noD = (sent.txRequest .link).offer .link (burst frames))) ∧
  (∀ (s : State) (k : Nat), s.addFrames k 0 = s ∧ ∀ fuel : Nat,
     let l := s.link
     let room := l.outstanding.length < 4 ∧ 1 + k + l.outstanding.length < 6
     let added : SeqKind → Nat → Nat → Nat → List Outstanding := fun kind n offset count =>
       l.outstanding ++ [⟨l.sendNext, kind, n, offset, count, 0⟩]
     let next := (l.sendNext + 1) % 8
     (¬ room ∨ l.current = none → s.addFrames k (fuel + 1) = s) ∧
     ∀ n o, room → l.current = some n → s.outbound n = some o →
       let length := 9 + (decimal o.text.length).length + o.text.length
       let asks := length ≤ l.cut ∧ o.resume = length ∧ l.outstanding = [] ∧ l.requests < 2
       (l.mDue = true → s.addFrames k (fuel + 1) =
         State.addFrames
           { s with link := { l with outstanding := added .m n o.resume 0, sendNext := next, mDue := false } } k fuel) ∧
       (l.mDue = false → l.cut < length →
         let count := min 16 (length - l.cut)
         s.addFrames k (fuel + 1) =
           State.addFrames { s with link := { l with outstanding := added .d n l.cut count, sendNext := next,
                                                     cut := l.cut + count } } k fuel) ∧
       (l.mDue = false → asks → s.addFrames k (fuel + 1) =
         State.addFrames { s with link := { l with outstanding := added .p n 0 0, sendNext := next,
                                                   requests := l.requests + 1 } } k fuel) ∧
       (l.mDue = false → length ≤ l.cut → ¬ asks → s.addFrames k (fuel + 1) = s)) ∧
  (∀ (s : State) (e : Outstanding) (o : Outbound) (msg : Nat), s.outbound e.slot = some o → o.msg = some msg →
     let letter : Byte := match o.cls with
       | .urgent => 0x55#8
       | .catch_ => 0x43#8
       | .routine => 0x52#8
     let stream := [0x2B#8] ++ digits 4 msg ++ [0x20#8, letter, 0x20#8] ++ decimal o.text.length ++ [0x0A#8] ++ o.text
     (e.kind = .m → s.outstandingFrame e = linkFrame 'M' e.seq (digits 4 msg ++ [0x20#8] ++ decimal e.offset)) ∧
     (e.kind = .d → s.outstandingFrame e = linkFrame 'D' e.seq ((stream.drop e.offset).take e.count)) ∧
     (e.kind = .p → s.outstandingFrame e = linkFrame 'P' e.seq (digits 4 msg))) ∧
  (∀ s : State,
     let l := s.link
     let conditions := s.time.state = .locked ∧ s.own.state = .none ∧ s.silence.running = false ∧ s.fault.state ≠ .lockout ∧
       s.ident.vessel ≠ []
     let due : Nat → Bool := fun n => match s.outbound n with
       | some o => decide (o.state = .queued ∧ o.retry = none)
       | none => false
     let u := s.handle .linkTest
     let starts : Text → Prop := fun station => u = State.claim { s with
       queue := { s.queue with request := if s.queue.request = some station then none else s.queue.request },
       link := { Link.reset with state := .waitGrant, station := some station } } .link
     (l.state ≠ .idle ∨ ¬ conditions ∨ s.queue.entries.find? due = none ∧ s.queue.request = none → u = s) ∧
     (∀ n o, l.state = .idle → conditions → s.queue.entries.find? due = some n → s.outbound n = some o → starts o.dest) ∧
     (∀ station, l.state = .idle → conditions → s.queue.entries.find? due = none → s.queue.request = some station →
       starts station)) ∧
  (∀ (k : Char) (q : Nat) (t : Text), (∀ c ∈ t, c ∈ airAlphabet) →
     linkFrame k q t = airFrame ((k.toNat - 0x41) :: (26 + q) :: airSymbols t)) ∧
  (∀ frames : List (List Symbol), burst frames = [49, 50, 49, 50, 49, 50] ++ frames.flatten ++ [53]) ∧
  (∀ k n : Nat, 1 ≤ k → k ≤ 12 → n < 10 ^ k → k = 1 ∨ 10 ^ (k - 1) ≤ n → decimal n = digits k n) ∧
  ∀ (s : State) (station : Text),
    let order := s.stationOrder station
    let serves : Nat → Prop := fun i => i < s.channels.length ∧ (s.channel i).valid = true ∧ (s.channel i).role = .traffic ∧
      (s.channel i).station = station
    let level : Nat → Int := fun i => match (s.channel i).smooth with
      | some n => n
      | none => -1
    (∀ i, i ∈ order ↔ serves i ∧ ((∃ j, serves j ∧ (s.channel j).poor = false) → (s.channel i).poor = false)) ∧
    order.Nodup ∧
    order.Pairwise fun i j => (s.channel j).score < (s.channel i).score ∨
      (s.channel j).score = (s.channel i).score ∧ (level j < level i ∨ level j = level i ∧ i < j)

/-- R128, R132, R155: the turn wait runs out: after phasing heard the coast burst ends with the frames received so far,
a connected call answers with its first burst, an unanswered one only loses the wait. The symbol wait runs out: a part
in progress closes with 32 characters counted as damaged and reception returns to HUNT; a part of which no block was
taken is dropped and counted empty. A wait that does not run delivers nothing (log 30). R132: phasing heard and turn
received do the same for a link holder. R134 to R139: the end of a coast burst, its passes in their order: A, the
sequenced frames, Q or N for an acknowledged P (R115, R105), L, then the quiet turns and the next burst. A message
number of four zeros counts as one (log 42). R142, R113, R114, R116: what a link's end leaves, the entries charged an
attempt or failed and the check tested. R117 to R120: the inbound side, character by character: first lines, records
with and without one, their ends, the receipts owed, and what an offer needs of the store. R155 to R158: how a part is
closed, its expiry, and how it is disposed of, by a clear, a loss of lock or another closing event. -/
def Obligations.TurnWaitAndSymbolWait : Prop :=
  (∀ s : State, s.atRest → s.running = true →
     (s.link.turnWait = false → exec .turnWaitExpiry s = .next s) ∧
     (s.link.turnWait = true →
       (s.link.state = .calling → s.link.connected = false →
         exec .turnWaitExpiry s = .next { s with link := { s.link with turnWait := false } }) ∧
       (s.link.state = .calling → s.link.connected = true → exec .turnWaitExpiry s =
         .next ((s.setLink { s.link with turnWait := false, replies := [] }).compose true).settle) ∧
       (s.link.state = .awaitReply ∨ s.link.state = .clearing → s.link.phasingWait = true →
         exec .turnWaitExpiry s = .next { s with link := { s.link with turnWait := false } }) ∧
       (s.link.state = .awaitReply ∨ s.link.state = .clearing → s.link.phasingWait = false →
         exec .turnWaitExpiry s = .next s.coastBurstEnd.settle)) ∧
     (s.bull.recv = none ∨ s.bull.recv = some .hunt ∨ s.store.part = none → exec .symbolWaitExpiry s = .next s) ∧
     ∀ e n p, s.bull.recv = some (.open_ e n) → s.store.part = some p →
       ∃ t, exec .symbolWaitExpiry s = .next t ∧ t.bull.recv = some .hunt ∧ t.store.part = none ∧ t.steady = s.steady ∧
         (n = 0 → t.bull.empty = min 65535 (s.bull.empty + 1) ∧ t.store.slots = s.store.slots ∧
           t.store.free = s.store.free ++ p.pages) ∧
         (0 < n → s.store.bulletinOf p.key = none → (s.store.request s.clock 1 0).isSome = true →
           t.bull.stored = min 65535 (s.bull.stored + 1) ∧
           ∃ slot r b, t.record slot = some r ∧ r.body = .bulletin b ∧ b.key = p.key ∧ b.count = p.count ∧
             b.parts = [⟨p.number, p.damaged + 32, ⟨s.time.reading, s.time.state⟩, p.text, p.pages⟩])) ∧
  (∀ s : State, s.holder = some .link →
     let l := s.link
     let turn := s.handle (.turn .transceiver (some .link))
     s.handle (.phasing .transceiver (some .link)) =
       (if l.phasingWait then { s with link := { l with phasingWait := false, silent := 0 } } else s) ∧
     (l.turnWait = false ∨ l.state = .calling ∧ l.connected = false → turn = s) ∧
     (l.turnWait = true → l.state = .calling → l.connected = true →
       turn = State.compose { s with link := { l with turnWait := false, replies := [] } } true) ∧
     (l.turnWait = true → l.state = .awaitReply ∨ l.state = .clearing →
       turn = if l.phasingWait then s else s.coastBurstEnd)) ∧
  (∀ s : State,
     let l := s.link
     let due : State → Nat → Bool := fun t n => match t.outbound n with
       | some o => decide (o.state = .queued ∧ o.retry = none ∧ o.dest = t.link.station.getD [] ∧ n ∉ t.link.setAside)
       | none => false
     let noD : Bool := l.replies.all fun r => decide (r.kind ≠ some (letterSym 'D'))
     let first := State.ackPass { s with link := { l with turnWait := false } }
     let second := l.replies.foldl State.takeSequenced first.1
     let third := if first.2 then second.receiptPass l.replies else second
     let quiet := if noD = false ∨ third.inbound.mode ≠ .body then 0
       else if third.link.current = none ∧ third.queue.entries.find? (due third) = none ∧ third.link.outstanding = [] then
         min 2 (third.link.quiet + 1)
       else third.link.quiet
     let cleared := ∃ r ∈ l.replies, r.verdict = .good ∧ r.kind = some (letterSym 'L') ∧ r.payload = []
     (cleared → s.coastBurstEnd = third.endLink .cleared) ∧
     (¬ cleared → s.coastBurstEnd =
       State.compose { third with link := { third.link with quiet := quiet, replies := [] } } noD)) ∧
  (∀ s : State,
     let l := s.link
     let tells : FrameRec → Nat → Prop := fun r d =>
       r.verdict = .good ∧ r.kind = some (letterSym 'A') ∧ r.payload = [.sym (26 + d)] ∧ d ≤ 7
     (l.outstanding = [] ∨ (∀ r d, l.replies.head? = some r → ¬ tells r d) → s.ackPass = (s, false)) ∧
     ∀ r d e rest, l.replies.head? = some r → tells r d → l.outstanding = e :: rest →
       let k := (d + 8 - e.seq) % 8
       let acked := (e :: rest).take k
       (k = 0 ∨ rest.length + 1 < k → s.ackPass = (s, false)) ∧
       (1 ≤ k → k ≤ rest.length + 1 →
         s.ackPass.1.link = { l with outstanding := (e :: rest).drop k } ∧
         s.ackPass.2 = acked.any (fun x => decide (x.kind = .p)) ∧
         (∀ n, s.ackPass.1.outbound n = (s.outbound n).map fun o => { o with resume := o.resume +
           ((acked.filter fun x => decide (x.kind = .d ∧ x.slot = n)).map (·.count)).sum }) ∧
         s.ackPass.1 = { s with store := { s.store with slots := s.ackPass.1.store.slots }, link := s.ackPass.1.link })) ∧
  (∀ (s : State) (r : FrameRec),
     let l := s.link
     let next := (l.recvNext + 1) % 8
     let owes : List (Nat × Bool) → Nat → Bool → List (Nat × Bool) := fun q n held =>
       let rest := q.filter fun x => decide (x.1 ≠ n)
       (if 8 ≤ rest.length then rest.drop 1 else rest) ++ [(n, held)]
     let data := r.verdict = .good ∧ r.kind = some (letterSym 'D') ∧ 1 ≤ r.payload.length ∧ r.payload.length ≤ 16
     let asks : Nat → Prop := fun n => r.verdict = .good ∧ r.kind = some (letterSym 'P') ∧ r.payload.length = 4 ∧
       groupText r.payload = digits 4 n ∧ n ≤ 9999
     (r.sequence ≠ some l.recvNext ∨ ¬ data ∧ (∀ n, ¬ asks n) → s.takeSequenced r = s) ∧
     (r.sequence = some l.recvNext → data →
       (s.inboundOffer (groupText r.payload) = none →
         (∀ q, ((s.takeSequenced r).port q).noticed = (s.port q).noticed ||| 0x1000#16) ∧
         s.takeSequenced r = { s with ports := (s.takeSequenced r).ports }) ∧
       ∀ t owed, s.inboundOffer (groupText r.payload) = some (t, owed) → s.takeSequenced r =
         { t with link := { l with recvNext := next, owed := owed.foldl (fun q n => owes q n true) l.owed } }) ∧
     ∀ n (held : Bool), r.sequence = some l.recvNext → asks n →
       (held = true ↔ ∃ x ∈ s.store.slots, ∃ y z i, x = some ⟨y, z, .inbound i⟩ ∧ i.state = .complete ∧ i.coastMsg = some n) →
       s.takeSequenced r = { s with link := { l with recvNext := next, owed := owes l.owed n held } }) ∧
  (∀ (s : State) (replies : List FrameRec),
     let l := s.link
     let u := s.receiptPass replies
     (l.current = none → u = s) ∧
     ∀ n o msg, l.current = some n → s.outbound n = some o → o.msg = some msg →
       let answers : FrameRec → Bool := fun r => decide (r.verdict = .good ∧
         (r.kind = some (letterSym 'Q') ∨ r.kind = some (letterSym 'N')) ∧ r.payload.length = 4 ∧
         valueOf (groupText r.payload) = some msg)
       let ends : OutState → Option FailReason → BitVec 16 → Prop := fun st why bit =>
         u.outbound n = some { o with state := st, failure := why, retry := none } ∧ u.link = { l with current := none } ∧
         u.queue.entries = s.queue.entries.filter (fun x => decide (x ≠ n)) ∧
         (∀ q, (u.port q).noticed &&& bit ≠ 0) ∧
         (∀ x, o.hauls ≠ [] → s.log.reports.find? (fun x => decide (x.slot = n)) = some x →
           (∀ q, (u.port q).noticed &&& 0x0800#16 ≠ 0) ∧
           u.log.reports = s.log.reports.filter (fun y => decide (y.slot ≠ n)) ∧
           u.log.hauls = s.log.hauls.map fun (h : Haul) => if h.number ∈ x.hauls then
             (if st = .delivered then { h with state := .reported, cor := false }
              else { h with state := .unreported, report := none }) else h) ∧
         u.steady = s.steady
       (∀ r, replies.find? answers = some r → r.kind = some (letterSym 'Q') → ends .delivered o.failure 0x0100#16) ∧
       (∀ r, replies.find? answers = some r → r.kind = some (letterSym 'N') →
         (l.notHeld = 0 → u.outbound n = some { o with resume := 0 } ∧
           u.link = { l with notHeld := 1, requests := 0, cut := 0, mDue := false } ∧
           u = { s with store := { s.store with slots := u.store.slots }, link := u.link }) ∧
         (l.notHeld ≠ 0 → ends .failed (some .notHeldLimit) 0x0200#16)) ∧
       (replies.find? answers = none → l.requests < 2 → u = s) ∧
       (replies.find? answers = none → 2 ≤ l.requests → o.state = .sending →
         u.outbound n = some { o with state := .queued, retry := none } ∧
         u.link = { l with current := none, setAside := l.setAside ++ [n] } ∧ Signal.linkTest ∈ u.signals)) ∧
  (∀ (s : State) (e : LinkEnd),
     let u := s.endLink e
     u.link = Link.reset ∧ (s.holder = some .link → s.freed u) ∧ Signal.linkTest ∈ u.signals ∧ u.steady = s.steady ∧
     u.inbound = { mode := .header, buffer := [], current := none,
                   discarded := min 65535 (s.inbound.discarded + s.inbound.buffer.length) } ∧
     (let station := s.link.station.getD []
      let home := station = s.ident.home ∧ s.ident.home ≠ []
      let why : Option FailReason := match e with
        | .busy => some .busy
        | .noAnswer => some .noAnswer
        | .linkLost => some .linkLost
        | .cleared | .abandoned => none
      let charged : Nat → Outbound → Bool := fun n o => decide (n ∈ s.queue.entries ∧ o.dest = station ∧
        (o.state = .sending ∨ o.state = .queued ∧ o.retry = none))
      let fails : Nat → Bool := fun n => match s.outbound n with
        | some o => charged n o && decide (7 ≤ o.attempts)
        | none => false
      (why = none → u.queue.entries = s.queue.entries ∧ u.log = s.log ∧ ∀ n o, s.outbound n = some o → u.outbound n =
        if s.link.current = some n ∧ o.state = .sending then some { o with state := .queued, retry := none } else some o) ∧
      (∀ f, why = some f → s.queue.entries.Nodup →
        u.queue.entries = s.queue.entries.filter (fun n => !fails n) ∧
        (∀ n o, s.outbound n = some o →
          (charged n o = false → u.outbound n = some o) ∧
          (charged n o = true → o.attempts < 7 → u.outbound n =
            some { o with attempts := o.attempts + 1, state := .queued, retry := some s.time.elapsed }) ∧
          (charged n o = true → 7 ≤ o.attempts → u.outbound n =
            some { o with attempts := o.attempts + 1, state := .failed, failure := some f, retry := none } ∧
            (∀ q, (u.port q).noticed &&& 0x0200#16 ≠ 0) ∧
            ∀ x, o.hauls ≠ [] → s.log.reports.find? (fun x => decide (x.slot = n)) = some x →
              (∀ q, (u.port q).noticed &&& 0x0800#16 ≠ 0) ∧ (∀ y ∈ u.log.reports, y.slot ≠ n) ∧
              ∀ h ∈ u.log.hauls, h.number ∈ x.hauls → h.state = .unreported ∧ h.report = none)) ∧
        ((∀ n, fails n = false) → u.log = s.log)) ∧
      (¬ home → u.queue = { s.queue with entries := u.queue.entries }) ∧
      (home → u.queue = { s.queue with
        entries := u.queue.entries, lastHome := s.time.elapsed,
        timer := if s.ident.interval = 0 then none else some ⟨s.time.elapsed, s.ident.interval * 3600⟩,
        request := if s.ident.interval = 0 then none else s.queue.request })) ∧
     ∀ n i, s.inbound.current = some n → s.inboundRec n = some i → i.state = .receiving →
       u.inboundRec n = some { i with state := .incomplete } ∧
       ∀ q, i.addressee.hears (s.port q).role = true → (u.port q).noticed &&& 0x0400#16 ≠ 0) ∧
  (∀ (s : State) (text : Text),
     let w := s.inboundNeed text
     let feed : State → State × List Nat := fun t => text.foldl (fun x c => x.1.inboundChar x.2 c) (t, [])
     let found : Option Inbound := match s.inbound.current with
       | some n => s.inboundRec n
       | none => none
     let declared : Nat := match found with
       | some i => i.declared.getD 0
       | none => 0
     w = text.foldl InboundNeed.char
       { mode := s.inbound.mode, buffer := s.inbound.buffer, length := (found.elim [] (·.text)).length, declared := declared,
         slots := 0, pages := 0 } ∧
     (w.slots = 0 → w.pages = 0 → s.inboundOffer text = some (feed s)) ∧
     (w.slots ≠ 0 ∨ w.pages ≠ 0 →
       (s.store.request s.clock w.slots w.pages = none → s.inboundOffer text = none) ∧
       ∀ st, s.store.request s.clock w.slots w.pages = some st →
         let y := feed { s with store := st }
         s.inboundOffer text = some (y.1.lowTest, y.2))) ∧
  (∀ (w : InboundNeed) (c : Byte),
     let line := w.buffer ++ [c]
     let whole := c = 0x0A#8 ∨ 13 ≤ line.length
     let page : Nat := if w.length % 64 = 0 then 1 else 0
     (w.mode = .header → ¬ whole → w.char c = { w with buffer := line }) ∧
     (∀ x, w.mode = .header → whole → parseFirstLine line = some x → w.char c =
       { w with mode := .body, buffer := [], length := 0, declared := x.declared, slots := w.slots + 1 }) ∧
     (w.mode = .header → whole → parseFirstLine line = none → w.char c =
       { mode := .raw, buffer := [], length := line.length, declared := 0, slots := w.slots + 1,
         pages := w.pages + (line.length + 63) / 64 }) ∧
     (w.mode = .body → w.char c = { w with length := w.length + 1, pages := w.pages + page,
                                           mode := if w.length + 1 = w.declared then .header else .body }) ∧
     (w.mode = .raw → w.char c =
       if w.length < 8192 then { w with length := w.length + 1, pages := w.pages + page } else w)) ∧
  (∀ (m n : Nat) (who : Addressee), 1 ≤ m → m ≤ 9999 → 1 ≤ n → n ≤ 8192 →
     parseFirstLine ([0x2B#8] ++ digits 4 m ++ [0x20#8, who.letter, 0x20#8] ++ decimal n ++ [0x0A#8]) = some ⟨m, who, n⟩) ∧
  (∀ (s : State) (owed : List Nat) (c : Byte),
     let side := s.inbound
     let line := side.buffer ++ [c]
     let whole := c = 0x0A#8 ∨ 13 ≤ line.length
     let t := (s.inboundChar owed c).1
     let slot := s.store.lowestFree
     let made : Option Record := (t.inboundRec slot).map fun i => ⟨none, ⟨s.time.reading, s.time.state⟩, .inbound i⟩
     let store : Store :=
       { s.store with age := s.store.age ++ [slot], slots := s.store.slots.set slot made, free := t.store.free }
     let opened : State := { s with store := store, inbound := t.inbound }
     (side.mode = .header → ¬ whole → s.inboundChar owed c = ({ s with inbound := { side with buffer := line } }, owed)) ∧
     (∀ x, side.mode = .header → whole → parseFirstLine line = some x → slot < s.store.slots.length →
       t.inboundRec slot = some
         { state := .receiving, coastMsg := some x.msg, addressee := x.addressee, declared := some x.declared, read := false,
           noHeader := false, text := [], pages := [] } ∧
       t.inbound = { side with mode := .body, buffer := [], current := some slot } ∧ t.store.free = s.store.free ∧
       s.inboundChar owed c = (opened, owed)) ∧
     (side.mode = .header → whole → parseFirstLine line = none → line.length ≤ 64 → slot < s.store.slots.length →
       t.inboundRec slot = some
         { state := .receiving, coastMsg := none, addressee := .all, declared := none, read := false,
           noHeader := true, text := line, pages := s.store.free.take 1 } ∧
       t.inbound = { side with mode := .raw, buffer := [], current := some slot } ∧ t.store.free = s.store.free.drop 1 ∧
       s.inboundChar owed c = (opened, owed)) ∧
     ∀ n i, side.current = some n → s.inboundRec n = some i →
       let page := if i.text.length % 64 = 0 then 1 else 0
       let longer : Inbound := { i with text := i.text ++ [c], pages := i.pages ++ s.store.free.take page }
       let whole := some (i.text.length + 1) = i.declared
       (side.mode = .body ∨ side.mode = .raw ∧ i.text.length < 8192 → t.store.free = s.store.free.drop page ∧
         t.steady = s.steady ∧ ∀ m, m ≠ n → t.record m = s.record m) ∧
       (side.mode = .body → ¬ whole → t.inboundRec n = some longer ∧ s.inboundChar owed c = ({ s with store := t.store }, owed)) ∧
       (side.mode = .body → whole → t.inboundRec n = some { longer with state := .complete } ∧
         t.inbound = { side with mode := .header, current := none } ∧
         (s.inboundChar owed c).2 = owed ++ i.coastMsg.toList ∧
         ∀ q, (t.port q).noticed = if i.addressee.hears (s.port q).role then (s.port q).noticed ||| 0x0400#16
           else (s.port q).noticed) ∧
       (side.mode = .raw → i.text.length < 8192 → t.inboundRec n = some longer ∧
         s.inboundChar owed c = ({ s with store := t.store }, owed)) ∧
       (side.mode = .raw → 8192 ≤ i.text.length → s.inboundChar owed c =
         ({ s with inbound := { side with discarded := min 65535 (side.discarded + 1) } }, owed))) ∧
  (∀ (s : State) (addition : Nat),
     let t := s.closePart addition
     (∀ c, c = .bulletinMandatory ∨ c = .bulletinOrdinary → s.holder = some c →
       s.handle (.clear .transceiver (some c)) = s.closePart 0 ∧ s.handle (.lockLost (some c)) = s.closePart 32) ∧
     (s.bull.recv = none ∨ s.bull.recv = some .hunt ∨ s.store.part = none → t = s) ∧
     ∀ e n p, s.bull.recv = some (.open_ e n) → s.store.part = some p →
       let damage := p.damaged + addition
       let entry : PartEntry := ⟨p.number, damage, ⟨s.time.reading, s.time.state⟩, p.text, p.pages⟩
       let b : BulletinEngine := { s.bull with recv := some .hunt }
       let dropped := t.store.slots = s.store.slots ∧ t.store.age = s.store.age ∧ t.store.free = s.store.free ++ p.pages
       let stored := t.bull = { b with stored := min 65535 (b.stored + 1) } ∧ ∀ q, (t.port q).noticed &&& 0x0080#16 ≠ 0
       t.store.part = none ∧ t.steady = s.steady ∧
       t = { s with store := t.store, bull := t.bull, ports := t.ports, alarm := t.alarm } ∧
       (n = 0 → dropped ∧ t.bull = { b with empty := min 65535 (b.empty + 1) }) ∧
       (0 < n → s.store.bulletinOf p.key = none →
         (s.store.request s.clock 1 0 = none → dropped ∧ t.bull = { b with dropped := min 65535 (b.dropped + 1) } ∧
           ∀ q, (t.port q).noticed &&& 0x1000#16 ≠ 0) ∧
         ∀ st, s.store.request s.clock 1 0 = some st → stored ∧ t.store.free = st.free ∧
           t.record st.lowestFree = some ⟨none, ⟨s.time.reading, s.time.state⟩, .bulletin
             { key := p.key, count := p.count, parts := [entry], expiry := expiryOf s.time.reading p.key }⟩ ∧
           (∀ m, m ≠ st.lowestFree → t.record m = st.slot m) ∧
           (p.key.subject = 0x57#8 → t.alarm.warning = ⟨true, false⟩ ∧ ∀ q, (t.port q).noticed &&& 0x0040#16 ≠ 0) ∧
           (p.key.subject ≠ 0x57#8 → t.alarm = s.alarm)) ∧
       ∀ slot x, 0 < n → s.store.bulletinOf p.key = some (slot, x) →
         let held := x.parts.find? fun y => decide (y.number = p.number)
         t.alarm = s.alarm ∧
         (x.count < p.number → dropped ∧ t.bull = { b with filtered := min 65535 (b.filtered + 1) }) ∧
         (p.number ≤ x.count → held = none → stored ∧ t.store.free = s.store.free ∧
           ∃ parts, (∀ y, y ∈ parts ↔ y = entry ∨ y ∈ x.parts) ∧ ∀ m, t.record m = if m = slot then
             (s.record slot).map (fun r => { r with body := .bulletin { x with parts := parts } }) else s.record m) ∧
         ∀ y, p.number ≤ x.count → held = some y →
           (y.damaged ≤ damage → dropped ∧ t.bull = { b with inferior := min 65535 (b.inferior + 1) }) ∧
           (damage < y.damaged → stored ∧ t.store.free = s.store.free ++
               ((x.parts.filter fun z => decide (z.number = p.number)).map (·.pages)).flatten ∧
             ∃ parts, (∀ z, z ∈ parts ↔ z = entry ∨ z ∈ x.parts ∧ z.number ≠ p.number) ∧ ∀ m, t.record m = if m = slot then
               (s.record slot).map (fun r => { r with body := .bulletin { x with parts := parts } }) else s.record m)) ∧
  ∀ (now : Reading) (key : BulletinKey), readingOk now = true → 1 ≤ key.day → key.day ≤ 31 →
    let days : Int → Int → Nat := fun y m =>
      if m = 2 then (if y % 4 = 0 then 29 else 28) else if m = 4 ∨ m = 6 ∨ m = 9 ∨ m = 11 then 30 else 31
    let last : Int := 12 * now.year + now.month - if key.day ≤ now.day then 0 else 1
    ∃ y m : Nat, expiryOf now key = instant ⟨y, m, key.day, key.hour, 0, 0⟩ + 36 * 3600 ∧ 1 ≤ m ∧ m ≤ 12 ∧
      12 * (y : Int) + m ≤ last ∧ key.day ≤ days y m ∧
      ∀ z k : Int, 1 ≤ k → k ≤ 12 → 12 * (y : Int) + m < 12 * z + k → 12 * z + k ≤ last → days z k < key.day

/-! ## Distress (chapter 10) -/

/-- R161, R164, R167: a press in NONE or TESTING makes the state ARMING with that state as the arming return, a release
in ARMING goes back to it, and the key hold running out in ARMING begins a new alert with nature U, whose alert cycle is
called for. OWN_ALERT is raised at each change. In other states the line moves and nothing else; a level already there
is no move (log 1), and a key hold that does not run delivers nothing (log 30). `u` is the state before the hand-offs.
-/
def Obligations.DistressKey : Prop :=
  ∀ s : State, s.atRest → s.running = true →
    let down : State := { s with pins := { s.pins with dbtn := true } }
    let up : State := { s with pins := { s.pins with dbtn := false } }
    (s.pins.dbtn = true → exec .distressKeyPress s = .next s) ∧
    (s.pins.dbtn = false → exec .distressKeyRelease s = .next s) ∧
    (s.own.state ≠ .arming → exec .keyHoldExpiry s = .next s) ∧
    (s.pins.dbtn = false →
      (s.own.state = .none → exec .distressKeyPress s = .next
        ((({ down with own := { s.own with state := .arming, armRet := some false } }.raiseAll .ownAlert).post
          .gateClosed)).settle) ∧
      (s.own.state = .testing → exec .distressKeyPress s = .next
        ({ down with own := { s.own with state := .arming, armRet := some true } }.raiseAll .ownAlert)) ∧
      (s.own.state ≠ .none → s.own.state ≠ .testing → exec .distressKeyPress s = .next down)) ∧
    (s.pins.dbtn = true →
      (s.own.state = .arming → s.own.armRet = some true → exec .distressKeyRelease s = .next
        ({ up with own := { s.own with state := .testing, armRet := none } }.raiseAll .ownAlert)) ∧
      (s.own.state = .arming → s.own.armRet ≠ some true → exec .distressKeyRelease s = .next
        ((({ up with own := { s.own with state := .none, armRet := none, repeatOn := false } }.raiseAll .ownAlert).post
          .linkTest)).settle) ∧
      (s.own.state ≠ .arming → exec .distressKeyRelease s = .next up)) ∧
    (s.own.state = .arming → ∃ u : State, exec .keyHoldExpiry s = .next u.settle ∧ u.own.state = .active ∧
      u.own.number = (if s.own.number = 99 then 1 else s.own.number + 1) ∧ u.own.nature = 0x55#8 ∧
      u.own.ackCoast = none ∧ u.own.testWait = false ∧ u.alarm.ownAlert.active = true ∧
      (∀ p, (u.port p).noticed &&& 0x0010#16 ≠ 0) ∧
      (s.cycle = none → s.watchList ≠ [] → u.own.cycles = 1 ∧ u.own.noChannel = false ∧ u.own.repeatOn = true ∧
        ∃ c, u.cycle = some c ∧ c.kind = .alert ∧ c.channels = s.watchList.take 4 ∧ c.pos = 0 ∧ c.action = none ∧
          u.hasClaim .distress = true) ∧
      (s.cycle = none → s.watchList = [] → u.own.cycles = 0 ∧ u.own.noChannel = true ∧ u.cycle = none ∧
        ∀ p, (u.port p).noticed &&& 0x0004#16 ≠ 0) ∧
      u.steady = s.steady)

/-- R166, R169, R171, R172: the repeat interval, the cancel window, the cancel retry and the test reply wait run out.
The first begins an alert cycle while the alert is unanswered, or makes ALERT the pending action of the cycle in
progress where none is pending; the second gives way to the return state; the third begins the cancel cycle again; the
last is over. An interval that does not run delivers nothing (log 30). -/
def Obligations.DistressIntervals : Prop :=
  ∀ s : State, s.atRest → s.running = true →
    (s.own.repeatOn = false → exec .repeatIntervalExpiry s = .next s) ∧
    (s.own.repeatOn = true →
      let stopped : State := { s with own := { s.own with repeatOn := false } }
      let unanswered := s.own.state = .active ∨ s.own.state = .cancelPending ∧ s.own.ret = some false
      (¬ unanswered → exec .repeatIntervalExpiry s = .next stopped) ∧
      (unanswered → s.cycle = none → exec .repeatIntervalExpiry s = .next (stopped.beginCycle .alert).settle) ∧
      (∀ c, unanswered → s.cycle = some c → c.action = none →
        exec .repeatIntervalExpiry s = .next { stopped with cycle := some { c with action := some (.cycle .alert) } }) ∧
      (∀ c, unanswered → s.cycle = some c → c.action = some .end_ ∨ c.action = some (.cycle .cancel) →
        exec .repeatIntervalExpiry s = .next stopped)) ∧
    (s.own.state ≠ .cancelPending → exec .cancelWindowExpiry s = .next s) ∧
    (s.own.state = .cancelPending →
      let back : AlertState → State := fun st =>
        { s with own := { s.own with state := st, ret := none, requester := none } }.raiseAll .ownAlert
      (s.own.ret = some true → exec .cancelWindowExpiry s = .next (back .acknowledged)) ∧
      (s.own.ret = some false → s.cycle.isSome = true →
        exec .cancelWindowExpiry s = .next ((back .active).alarmActive .ownAlert true)) ∧
      (s.own.ret = some false → s.cycle = none →
        exec .cancelWindowExpiry s = .next (((back .active).alarmActive .ownAlert true).beginCycle .alert).settle)) ∧
    (s.own.retryOn = false → exec .cancelRetryExpiry s = .next s) ∧
    (s.own.retryOn = true → exec .cancelRetryExpiry s =
      .next ({ s with own := { s.own with retryOn := false } }.beginCycle .cancel).settle) ∧
    (s.own.testWait = false → exec .testReplyWaitExpiry s = .next s) ∧
    (s.own.testWait = true → exec .testReplyWaitExpiry s = .next { s with own := { s.own with testWait := false } })

/-- R163, R166 to R168, R172: how a cycle begins. The channels are the valid DISTRESS entries in ascending index, the
first four, or the first alone for a test. With none, the no-channel flag is set and FAULT raised where it was clear, a
cancel cycle's retry is started, there is no cycle and the frame buffer is empty (log 35). Otherwise the flag is
cleared, an alert cycle counted, the frame buffer composed, and the unit claims, or tunes the first channel within its
grant. It is said of the calls CANCEL_RETRY_EXPIRY makes and of the others by the operation they share. R168: on GRANTED
the channel at the list position is tuned, on SETTLED the key is requested, on KEYED the frame buffer is offered to the
transmit path, and at the channel's end the pending action or the next channel is taken; how each kind of cycle ends; a
cycle called for while another is in progress, and the precedence of the pending actions. R6, R13, R103: the symbols of
a frame of the alert family and of phasing, and the forms of numbers and positions in it. -/
def Obligations.CycleBegins : Prop :=
  (∀ (s : State) (k : CycleKind),
     (s.own.retryOn = true → s.running = true →
       exec .cancelRetryExpiry s = .next ({ s with own := { s.own with retryOn := false } }.beginCycle .cancel).settle) ∧
     (s.watchList = [] →
       let t := s.beginCycle k
       t.cycle = none ∧ t.frameBuf = [] ∧ t.own.noChannel = true ∧ t.own.state = s.own.state ∧
       t.own.cycles = s.own.cycles ∧ (k = .cancel → t.own.retryOn = true) ∧ (k = .alert → t.own.repeatOn = true) ∧
       (∀ p, s.own.noChannel = false → (t.port p).noticed = (s.port p).noticed ||| 0x0004#16) ∧
       (∀ p, s.own.noChannel = true → (t.port p).noticed = (s.port p).noticed)) ∧
     (s.watchList ≠ [] →
       let t := s.beginCycle k
       let channels := s.watchList.take (if k = .test then 1 else 4)
       t.own.noChannel = false ∧ t.own.state = s.own.state ∧
       t.own.cycles = (if k = .alert then min 255 (s.own.cycles + 1) else s.own.cycles) ∧
       (k = .alert → t.own.repeatOn = true) ∧
       (s.holder ≠ some .distress →
         t.cycle = some ⟨k, channels, 0, .waitGrant, none⟩ ∧ t.hasClaim .distress = true) ∧
       (s.holder = some .distress →
         t.cycle = some ⟨k, channels, 0, .settling, none⟩ ∧ t.holder = some .distress ∧
         (s.phase ≠ some .tx → t.grantChannel = some (channels.getD 0 0) ∧ t.phase = some .settling)) ∧
       ∃ payload : Text, t.frameBuf = phasingSymbols ++ alertFrame k.letter payload ++ alertFrame k.letter payload ++
           alertFrame k.letter payload ∧
         payload = spaced [if s.ident.vessel = [] then [0x3F#8] else s.ident.vessel,
           digits 2 (if k = .test then 0 else s.own.number), [s.own.nature],
           if s.position.valid then positionText s.position.lat s.position.lon else [0x3F#8],
           if s.position.valid then digits 2 s.position.fix.reading.hour ++ digits 2 s.position.fix.reading.minute
             else [0x3F#8]])) ∧
  (∀ (s : State) (c : Cycle), s.holder = some .distress → s.cycle = some c →
     let granted := s.handle (.granted .distress)
     let settled := s.handle (.settled .distress)
     let keyed := s.handle (.keyed .distress)
     let done := s.handle (.completed .distress s.tx.sent)
     let i := c.channels.getD c.pos 0
     let ready := s.phase = some .rx ∧ s.grantChannel.isSome = true
     (c.phase ≠ .waitGrant → granted = s) ∧
     (c.phase = .waitGrant → s.phase ≠ some .tx → (s.channel i).valid = true → granted =
       { s with cycle := some { c with phase := .settling }, tuner := ⟨(s.channel i).freq, false⟩, tstb := s.tstb + 1,
                arb := granted.arb, trx := s.trx.broken false } ∧
       granted.grantChannel = some i ∧ granted.phase = some .settling ∧ granted.holder = some .distress) ∧
     (c.phase = .waitGrant → s.phase = some .tx ∨ (s.channel i).valid = false → granted =
       { s with cycle := some { c with phase := .settling } }.post (.tuneRefused .distress)) ∧
     (c.phase ≠ .settling → settled = s ∧ keyed = s) ∧
     (c.phase = .settling → ¬ ready → settled = s.post (.blocked .distress)) ∧
     (c.phase = .settling → ready → s.monitor = .falling →
       settled = { s.setPhase .tx with tx := { s.tx with heldBack := true } }) ∧
     (c.phase = .settling → ready → s.monitor ≠ .falling → s.running = true →
       settled.keyLine = true ∧ settled.phase = some .tx ∧ settled.holder = some .distress ∧ settled.watch.blanked = true ∧
       Signal.keyed .distress ∈ settled.signals ∧ settled.cycle = s.cycle ∧ settled.frameBuf = s.frameBuf ∧
       settled.own = s.own) ∧
     (c.phase = .settling → s.phase = some .tx → keyed =
       { s with cycle := some { c with phase := .sending }, tx := { s.tx with list := s.tx.list ++ s.frameBuf },
                tuner := keyed.tuner, tstb := keyed.tstb } ∧
       keyed.tuner.freq = s.tuner.freq ∧ keyed.tuner.space = (!s.tx.heldBack && keyed.tx.spaceUnit)) ∧
     s.handle (.keyFault .distress) = done ∧ s.handle (.tuneRefused .distress) = done ∧ s.handle (.blocked .distress) = done ∧
     s.handle (.stopped .distress s.tx.sent) = s ∧ s.handle (.releaseRequest .distress) = s ∧
     (c.phase = .waitGrant → done = s) ∧
     (c.phase ≠ .waitGrant →
       let ended : State := { s with cycle := none, frameBuf := [] }.release .distress
       let waits : State := { ended with own := { s.own with testWait := true } }
       let noneNow : State := { waits with own := { s.own with testWait := true, state := .none, repeatOn := false } }
       let closed : State := { ended with own := { s.own with state := .none, repeatOn := false } }
       let last := c.action = some .end_ ∨ c.action = none ∧ c.channels.length ≤ c.pos + 1
       let j := c.channels.getD (c.pos + 1) 0
       (∀ k, c.action = some (.cycle k) → done = s.beginCycle k) ∧
       (c.action = none → c.pos + 1 < c.channels.length → s.phase ≠ some .tx → (s.channel j).valid = true → done =
         { s with cycle := some { c with pos := c.pos + 1, phase := .settling }, tuner := ⟨(s.channel j).freq, false⟩,
                  tstb := s.tstb + 1, arb := done.arb, trx := s.trx.broken false } ∧
         done.grantChannel = some j ∧ done.phase = some .settling ∧ done.holder = some .distress) ∧
       (c.action = none → c.pos + 1 < c.channels.length → s.phase = some .tx ∨ (s.channel j).valid = false → done =
         { s with cycle := some { c with pos := c.pos + 1, phase := .settling } }.post (.tuneRefused .distress)) ∧
       ended.cycle = none ∧ ended.frameBuf = [] ∧ ended.own = s.own ∧
       (last → c.kind = .alert → done = ended) ∧
       (last → c.kind = .cancel → s.own.state = .cancelling → done = (closed.raiseAll .ownAlert).post .linkTest) ∧
       (last → c.kind = .test → s.own.state = .testing → done = (noneNow.raiseAll .ownAlert).post .linkTest) ∧
       (last → c.kind = .test → s.own.state = .arming →
         done = { waits with own := { s.own with testWait := true, armRet := some false } }))) ∧
  (∀ (s : State) (c : Cycle) (k : CycleKind), s.cycle = some c → k ≠ .test →
     (c.phase ≠ .sending → s.callCycle k = s.beginCycle k) ∧
     (c.phase = .sending → ∃ a, s.callCycle k = { s with cycle := some { c with action := some a } } ∧
       (c.action = none → a = .cycle k) ∧ (k = .cancel → a = .cycle .cancel) ∧
       (k = .alert → ∀ b, c.action = some b → b ≠ .cycle .test → a = b))) ∧
  (∀ (s : State) (c : Cycle), s.cycle = some c →
     (c.kind ≠ .alert → s.stopAlertCycle = s) ∧
     (c.kind = .alert → c.phase ≠ .sending →
       s.stopAlertCycle = { s with cycle := none, frameBuf := [] }.release .distress) ∧
     (c.kind = .alert → c.phase = .sending →
       (c.action = none ∨ c.action = some (.cycle .alert) →
         s.stopAlertCycle = { s with cycle := some { c with action := some .end_ } }) ∧
       (c.action = some .end_ ∨ c.action = some (.cycle .cancel) → s.stopAlertCycle = s))) ∧
  (∀ (k : Char) (t : Text), (∀ c ∈ t, c ∈ airAlphabet) →
     alertFrame k t = airFrame ((k.toNat - 0x41) :: airSymbols t)) ∧
  phasingSymbols = [49, 50, 49, 50, 49, 50] ∧
  (∀ w n i : Nat, i < w → (digits w n).length = w ∧
     (digits w n)[i]? = some (BitVec.ofNat 8 (0x30 + n / 10 ^ (w - 1 - i) % 10))) ∧
  (∀ lat lon : Int,
     let tenths : Nat → Int → Byte → Byte → Text := fun w a plus minus =>
       digits w (a.natAbs / 600) ++ digits 2 (a.natAbs % 600 / 10) ++ digits 1 (a.natAbs % 10) ++
         [if 0 ≤ a then plus else minus]
     positionText lat lon = tenths 2 lat 0x4E#8 0x53#8 ++ [0x2F#8] ++ tenths 3 lon 0x45#8 0x57#8) ∧
  (∀ t u : Text, ∀ rest : List Text, spaced [t] = t ∧ spaced (t :: u :: rest) = t ++ [0x20#8] ++ spaced (u :: rest))

/-! ## Sounder (chapter 11) -/

/-- R188: at the end of a period the running cadence takes the next cadence, on part first, and at the end of its on
part SNDR falls. Nothing else changes; while the cadence is off a period end has no effect (log 1). -/
def Obligations.Cadences : Prop :=
  ∀ s : State, s.atRest → s.running = true →
    (s.alarm.running = none → exec .cadencePeriodEnd s = .next s) ∧
    (s.alarm.running.isSome = true → exec .cadencePeriodEnd s =
      .next { s with alarm := { s.alarm with running := s.alarm.next, onPart := s.alarm.next.isSome } }) ∧
    exec .cadenceOnPartEnd s = .next { s with alarm := { s.alarm with onPart := false } } ∧
    (∀ t, exec .cadencePeriodEnd s = .next t → s.alarm.running.isSome = true → t.sndr = t.alarm.next.isSome) ∧
    ∀ t, exec .cadenceOnPartEnd s = .next t → t.sndr = false

/-! ## Console ports: transfers (chapter 11) -/

/-- R183: a byte, the last byte of a response and the release of a transfer on a port. In WORKING a byte sets the
overrun flag; in RESPONDING a byte other than 0xFF does, and the byte counts one clocked out; the last byte clocked out
discards the response and takes the port to READY; a transfer released before reads the response from its sync byte
again. In READY they are no transfer (log 17). Nothing else changes. R183, and the model's choice (log 17): a command
frame given to a port that is not READY is no command. In WORKING it sets the overrun flag; in RESPONDING it sets it and
clocks the response out, wholly where the frame is as long as the response, else the next transfer reads it again. A
transfer given as bytes does the same, but sets the flag in RESPONDING only where one of the bytes that clock the
response out is other than 0xFF: what follows the response's last check byte is neither command nor overrun. -/
def Obligations.PortsThatAreNotReady : Prop :=
  (∀ (s : State) (p : Port) (b : Byte), s.atRest → s.running = true →
     let c := s.port p
     (c.state = .ready → exec (.overrun p b) s = .next s ∧ exec (.responseRead p) s = .next s ∧
       exec (.responseTransferReleased p) s = .next s) ∧
     (c.state = .working → exec (.overrun p b) s = .next (s.setPort p { c with overrun := true })) ∧
     ∀ r, c.state = .responding → c.response = some r →
       exec (.overrun p b) s =
         .next (s.setPort p { c with overrun := c.overrun || decide (b ≠ 0xFF#8),
                                     response := some { r with out := min (r.out + 1) (r.bytes.length - 1) } }) ∧
       exec (.responseRead p) s = .next (s.setPort p { c with state := .ready, response := none }) ∧
       exec (.responseTransferReleased p) s = .next (s.setPort p { c with response := some { r with out := 0 } })) ∧
  (∀ (i : Instr) (p : Port) (t : Tag) (params : List Byte) (s : State), i.wf = true → Instr.frame i = some (p, t, params) →
     s.atRest → s.running = true →
     let c := s.port p
     (c.state = .working → exec i s = .next (s.setPort p { c with overrun := true })) ∧
     (∀ r, c.state = .responding → c.response = some r → r.bytes.length ≤ (commandFrame t params).length →
       exec i s = .next (s.setPort p { c with overrun := true, state := .ready, response := none })) ∧
     ∀ r, c.state = .responding → c.response = some r → (commandFrame t params).length < r.bytes.length →
       exec i s = .next (s.setPort p { c with overrun := true, response := some { r with out := 0 } })) ∧
  (∀ (s : State) (p : Port) (bytes : List Byte), s.atRest → s.running = true →
     let c := s.port p
     (c.state = .working → bytes = [] → exec (.badFrame p bytes) s = .next s) ∧
     (c.state = .working → bytes ≠ [] → exec (.badFrame p bytes) s = .next (s.setPort p { c with overrun := true })) ∧
     ∀ r, c.state = .responding → c.response = some r →
       let flag := c.overrun || (bytes.take r.bytes.length).any fun b => decide (b ≠ 0xFF#8)
       (r.bytes.length ≤ bytes.length →
         exec (.badFrame p bytes) s = .next (s.setPort p { c with overrun := flag, state := .ready, response := none })) ∧
       (bytes.length < r.bytes.length →
         exec (.badFrame p bytes) s = .next (s.setPort p { c with overrun := flag, response := some { r with out := 0 } })))

/-- R182, R180: a READY port judges a transfer: BAD_FRAME for the sync, the length, a transfer that ends early or the
check, then BAD_TAG, then ROLE. A refused frame has no effect beyond its response, but for bytes past the last check
byte, which set the overrun flag before it (R183, log 20). Parameters that do not have the command's form give BAD_PARAM
(log 18). R180, R183: the bytes of a command frame and of a response, their check, flags and status codes. -/
def Obligations.BadTransfersRefused : Prop :=
  (∀ (s : State) (p : Port), s.atRest → s.running = true → (s.port p).state = .ready →
     (∀ bytes : List Byte, bytes.length < 2 → exec (.badFrame p bytes) s = .next (s.respond p .badFrame [])) ∧
     ∀ (sync len : Byte) (rest : List Byte),
       let bytes := sync :: len :: rest
       let n := len.toNat
       let u : State := if n + 2 < rest.length then s.setPort p { s.port p with overrun := true } else s
       let sound := sync = 0xA5#8 ∧ 4 ≤ n ∧ n ≤ 250 ∧ n + 2 ≤ rest.length
       let checked := (rest.drop n).take 2 = checkBytes (len :: rest.take n)
       (¬ sound → exec (.badFrame p bytes) s = .next (s.respond p .badFrame [])) ∧
       (sound → ¬ checked → exec (.badFrame p bytes) s = .next (u.respond p .badFrame [])) ∧
       (sound → checked → (∀ t : Tag, t.name ≠ rest.take 4) → exec (.badFrame p bytes) s = .next (u.respond p .badTag [])) ∧
       ∀ t : Tag, sound → checked → t.name = rest.take 4 →
         (t.permits (s.port p).role = false → exec (.badFrame p bytes) s = .next (u.respond p .role [])) ∧
         (t.permits (s.port p).role = true → parseParams p t ((rest.take n).drop 4) = none →
           exec (.badFrame p bytes) s = .next (u.respond p .badParam []))) ∧
  (∀ l : List Byte,
     let w := (checkOver (l.map BitVec.toNat)).toNat
     checkBytes l = [BitVec.ofNat 8 (w / 256), BitVec.ofNat 8 w]) ∧
  (∀ (t : Tag) (params : List Byte),
     let covered := [BitVec.ofNat 8 (4 + params.length)] ++ t.name ++ params
     commandFrame t params = [0xA5#8] ++ covered ++ checkBytes covered) ∧
  (∀ (s : State) (p : Port) (st : Status) (data : List Byte),
     let c := s.port p
     let attention : Bool := s.running && decide (c.noticed &&& c.mask ≠ 0)
     let covered := [BitVec.ofNat 8 (2 + data.length), BitVec.ofNat 8 st.code,
       BitVec.ofNat 8 (flagByte c.overrun c.hold.isSome attention)] ++ data
     s.respond p st data = s.setPort p { c with
       overrun := false, state := .responding, response := some ⟨[0x5A#8] ++ covered ++ checkBytes covered, 0⟩ }) ∧
  [Status.ok, .badFrame, .badTag, .badParam, .role, .noRecord, .noHold, .holdLost, .inFlight, .inUse, .storeFull, .slotsFull,
     .queueFull, .logFull, .speciesFull, .wrongState].map Status.code = List.range 16 ∧
  Status.openHauls.code = 17 ∧ Status.noChannel.code = 18

/-- R180 to R182: the frame of a command, given as bytes to a READY port, is that command: every operand of every
command, at every value its fields hold, comes through its frame. The byte forms of the parameters and their order are
the model's (log 18), and so is that a transfer given as bytes may be a good frame and then is its command (log 39). -/
def Obligations.FramesCarryCommands : Prop :=
  ∀ (i : Instr) (p : Port) (t : Tag) (params : List Byte) (s : State), i.wf = true → Instr.frame i = some (p, t, params) →
    s.running = true → (s.port p).state = .ready → exec (.badFrame p (commandFrame t params)) s = exec i s

/-- R182: the table of roles. A command whose tag it does not permit to the port's role is refused with ROLE. QWDR
stands with the commands permitted to every role: its own rule tests role and origin (R110). -/
def Obligations.RolesOfCommands : Prop :=
  (∀ r : Role,
    (∀ t ∈ [Tag.stat, .note, .mask, .prst, .tget, .pget, .chrd, .skrd, .mred, .list, .qlst, .totl, .hred, .hlst, .qwdr],
      t.permits r = true) ∧
    (∀ t ∈ [Tag.dopn, .dapp, .ddis, .dque, .mrkr, .mdel], t.permits r = decide (r ≠ .none)) ∧
    (∀ t ∈ [Tag.tset, .ship, .fack, .skwr, .asil, .hack, .dtst, .dcnf], t.permits r = decide (r = .bridge ∨ r = .radio)) ∧
    (∀ t ∈ [Tag.posn, .dalr, .dcan, .dcls], t.permits r = decide (r = .bridge)) ∧
    (∀ t ∈ [Tag.chwr, .tune, .fclr, .qexp], t.permits r = decide (r = .radio)) ∧
    (∀ t ∈ [Tag.hadd, .hamd, .trip], t.permits r = decide (r = .catch_ ∨ r = .bridge)) ∧
    Tag.hdel.permits r = decide (r = .catch_) ∧ Tag.crep.permits r = decide (r = .catch_ ∨ r = .radio)) ∧
  ∀ (i : Instr) (p : Port) (t : Tag) (params : List Byte) (s : State), Instr.frame i = some (p, t, params) → s.atRest →
    s.running = true → (s.port p).state = .ready → t.permits (s.port p).role = false →
      exec i s = .next (s.respond p .role [])

/-! ## Console commands on the clock, the position and the identity (chapter 2) -/

/-- R25: TSET. Field checks, the new reading, the time state by R24's table, TIME raised where it was UNSET, and the
response. `u` is the state when the blocks have taken what they were handed; of the steady part only the timebase has
changed. A clock minute still waiting is taken first (log 12). R24, R151: with none waiting, the change of time state
and what the bulletin engine makes of the set: a DUE or ACTIVE window whose span the clock has left ends, a DUE one past
its end being missed, MISSED_WINDOW raised; an ACTIVE claim window closes its part and releases the grant; an enabled
IDLE window goes DUE in a span that serves it; then the review of the claim (see ClockMinute); the link engine's test
comes after it (log 55). `v` is the state before the review. At the end of a reset the same test is made, but not in
UNSET. -/
def Obligations.TsetSetsTheClock : Prop :=
  (∀ (s : State) (p : Port) (r : Reading), s.admits p .tset →
     let days := if r.month = 2 then (if r.year % 4 = 0 then 29 else 28) else if r.month ∈ [4, 6, 9, 11] then 30 else 31
     let ok := 2000 ≤ r.year ∧ r.year ≤ 2099 ∧ 1 ≤ r.month ∧ r.month ≤ 12 ∧ 1 ≤ r.day ∧ r.day ≤ days ∧ r.hour ≤ 23 ∧
       r.minute ≤ 59 ∧ r.second ≤ 59
     let after := if s.time.state = .unset then (if s.time.qualified then TimeState.locked else .holdover) else s.time.state
     (¬ ok → exec (.tset p r) s = .next (s.respond p .badParam [])) ∧
     (ok → ∃ u : State, exec (.tset p r) s = .next (u.respond p .ok (emitReading r ++ u8 after.code)) ∧ u.atRest ∧
       u.steady = { s.steady with time := { s.time with reading := r, state := after, minute := none } } ∧
       (s.time.state = .unset → ∀ q, (u.port q).noticed &&& 0x0002#16 ≠ 0))) ∧
  (∀ (s : State) (p : Port) (r : Reading), s.admits p .tset → readingOk r = true → s.time.minute = none →
     let after := if s.time.state = .unset then (if s.time.qualified then TimeState.locked else .holdover) else s.time.state
     let x : State := { s with time := { s.time with reading := r, state := after } }
     let told : State := if s.time.state ≠ .unset then x else if s.time.qualified = true then (x.raiseAll .time).post .linkTest
       else x.raiseAll .time
     exec (.tset p r) s = .next (told.bullTimeSet.settle.respond p .ok (emitReading r ++ u8 after.code))) ∧
  (∀ s : State, (s.time.state = .unset → s.bullStart = s) ∧
     (s.time.state ≠ .unset → (∀ w ∈ s.windows, w.span = none) → s.bullStart = s.bullTimeSet)) ∧
  ∀ s : State, s.time.state ≠ .unset →
    (∀ w ∈ s.windows, 1 ≤ w.every ∧ 1 ≤ w.duration ∧ w.duration ≤ 60 ∧ (w.state = .idle ↔ w.span = none)) →
    let now := instant s.time.reading
    let margin : Int := if s.time.state = .holdover then 120 else 0
    let left : Window → Prop := fun w => ∃ a b, w.span = some (a, b) ∧ (b ≤ now ∨ now < a)
    let missed : Window → Prop := fun w => w.state = .due ∧ ∃ a b, w.span = some (a, b) ∧ b ≤ now
    let serves : Window → Int → Prop := fun w n => (n - w.startSecond) % w.period = 0 ∧ n - margin ≤ now ∧
      now + 60 ≤ n + w.duration * 60 + margin
    let tested : Window → Window → Prop := fun x y =>
      (x.enabled = false ∨ x.state ≠ .idle ∨ (∀ n, ¬ serves x n) → y = x) ∧
      (x.enabled = true → x.state = .idle → (∃ n, serves x n) →
        ∃ n, serves x n ∧ y = { x with state := .due, span := some (n - margin, n + x.duration * 60 + margin) })
    ∃ v : State, s.bullTimeSet = v.bullReview ∧ v.steady = s.steady ∧ s.missedTold v (fun i => missed (s.window i)) ∧
      (∀ w, s.bull.claim = some w → (s.window w).state = .active → left (s.window w) →
        s.occurrenceOver v (s.window w).claimant) ∧
      ((∀ w, s.bull.claim = some w → (s.window w).state = .active → ¬ left (s.window w)) →
        v = { s with windows := v.windows, ports := v.ports }) ∧
      ∀ i, i < s.windows.length →
        let w := s.window i
        (¬ left w → tested w (v.window i)) ∧
        (left w → ¬ missed w → tested { w with state := .idle, span := none } (v.window i)) ∧
        (missed w → tested { w with state := .idle, span := none, missed := min 255 (w.missed + 1) } (v.window i))

/-- R26: TGET, given on a port of any role, answers the clock reading, the time state, the qualified flag with the good
and bad counts, and the elapsed seconds, and changes nothing but its port. -/
def Obligations.TgetReadsTheTimebase : Prop :=
  (∀ r : Role, Tag.tget.permits r = true) ∧
  ∀ (s : State) (p : Port), s.atRest → s.running = true → (s.port p).state = .ready →
    exec (.tget p) s = .next (s.respond p .ok
      (u16 s.time.reading.year ++ u8 s.time.reading.month ++ u8 s.time.reading.day ++ u8 s.time.reading.hour ++
        u8 s.time.reading.minute ++ u8 s.time.reading.second ++ u8 s.time.state.code ++ emitFlag s.time.qualified ++
        u8 s.time.good ++ u8 s.time.bad ++ u32 s.time.elapsed.toNat))

/-- R27, R28: POSN in its set form, with its checks and the fix time it stamps, and in its clear form (forms: log 18);
PGET with the stale verdict. Only the record and the port change. -/
def Obligations.PositionRecordCommands : Prop :=
  ∀ (s : State) (p : Port),
    (s.admits p .posn →
      exec (.posn p none) s =
        (let u : State := { s with position := { s.position with valid := false } }
         .next (u.respond p .ok (emitFlag false ++ i32 s.position.lat ++ i32 s.position.lon ++ emitStamp s.position.fix))) ∧
      ∀ g : GivenPosition,
        let fixOk := ∀ r, g.fix = some r → readingOk r = true ∧ (s.time.state ≠ .unset → instant r ≤ instant s.time.reading + 60)
        let ok := -54000 ≤ g.lat ∧ g.lat ≤ 54000 ∧ -108000 ≤ g.lon ∧ g.lon ≤ 108000 ∧ fixOk
        let fix : Stamp := ⟨g.fix.getD s.time.reading, s.time.state⟩
        let u : State := { s with position := { valid := true, lat := g.lat, lon := g.lon, fix := fix } }
        (¬ ok → exec (.posn p (some g)) s = .next (s.respond p .badParam [])) ∧
        (ok → exec (.posn p (some g)) s =
          .next (u.respond p .ok (emitFlag true ++ i32 g.lat ++ i32 g.lon ++ emitStamp fix)))) ∧
    (s.admits p .pget →
      let q := s.position
      let fields := emitFlag q.valid ++ i32 q.lat ++ i32 q.lon ++ emitStamp q.fix
      let stale := instant q.fix.reading + 14400 < instant s.time.reading ∨ q.fix.state = .unset ∧ s.time.state ≠ .unset
      (q.valid = false → exec (.pget p) s = .next (s.respond p .ok (fields ++ [0#8]))) ∧
      (q.valid = true → stale → exec (.pget p) s = .next (s.respond p .ok (fields ++ [1#8, 1#8]))) ∧
      (q.valid = true → ¬ stale → exec (.pget p) s = .next (s.respond p .ok (fields ++ [1#8, 0#8]))))

/-- R29: SHIP. Refusals in their order, then the three fields written, folded to capitals, and the response with the
record. `u` is the state when the queue's test of the check (R116) and the link engine's have been made. -/
def Obligations.ShipWritesTheIdentity : Prop :=
  ∀ (s : State) (p : Port) (vessel home : Text) (n : Nat), s.admits p .ship →
    let letterOrDigit : Byte → Bool := fun c => isUpper c || isDigit c
    let ok := 1 ≤ vessel.length ∧ vessel.length ≤ 7 ∧ (∀ c ∈ foldText vessel, letterOrDigit c = true) ∧ home.length = 4 ∧
      (∀ c ∈ foldText home, isUpper c = true) ∧ n ≤ 24
    let busy := foldText vessel ≠ s.ident.vessel ∧ (s.own.state ≠ .none ∨ s.link.state ≠ .idle)
    let ident : Identity := { s.ident with vessel := foldText vessel, home := foldText home, interval := n }
    (¬ ok → exec (.ship p vessel home n) s = .next (s.respond p .badParam [])) ∧
    (ok → busy → exec (.ship p vessel home n) s = .next (s.respond p .wrongState [])) ∧
    (ok → ¬ busy → ∃ u : State, exec (.ship p vessel home n) s = .next (u.respond p .ok
        (emitText ident.vessel ++ emitText ident.home ++ u8 n ++ u16 s.ident.trip ++ u16 s.ident.nextMsg ++
          u16 s.ident.nextReport)) ∧
      u.atRest ∧ u.steady = { s.steady with ident := ident })

/-! ## Console commands on channels, faults and the carrier (chapters 3 and 4) -/

/-- R32: CHRD, given on a port of any role, reads every field of an entry as it stands; with the hold option the port's
hold is set on the entry, in place of any it had, valid entry or not. An index above 23 is refused. No field of an entry
changes. The fields of an entry whose code has at most four letters (R31) fill no more than R180's 246 data bytes. -/
def Obligations.ChrdReadsAnEntry : Prop :=
  (∀ r : Role, Tag.chrd.permits r = true) ∧
  ∀ (s : State) (p : Port) (i : Nat), s.atRest → s.running = true → (s.port p).state = .ready →
    let c := s.channel i
    let fields := emitFlag c.valid ++ u8 c.role.code ++ u32 c.freq ++ emitText c.station ++ u8 c.floor ++ i8 c.score ++
      emitFlag c.poor ++ emitOpt u8 c.last ++ emitOpt u8 c.smooth ++ emitOpt emitStamp c.scanned ++ emitOpt emitStamp c.good
    (c.station.length ≤ 4 → fields.length ≤ 246) ∧
    (∀ hold, 23 < i → exec (.chrd p i hold) s = .next (s.respond p .badParam [])) ∧
    (i ≤ 23 → exec (.chrd p i false) s = .next (s.respond p .ok fields)) ∧
    (i ≤ 23 → exec (.chrd p i true) s =
      .next ((s.setPort p { s.port p with hold := some ⟨.channel i, false⟩ }).respond p .ok fields))

/-- R33, R184: CHWR. BAD_PARAM, the hold test, IN_USE, then the entry rewritten with its record of quality cleared, the
port's hold cleared, the other ports' holds on the entry lost, a conversion running for it voided (R41) and the watch
receiver on it settled again, or stepped on where the entry leaves the watch list, or IDLE where none is left, which is
no path break (R47, log 41) and leaves WTUNE as it was (log 53); an IDLE one begins with the first valid DISTRESS entry;
each step is strobed (log 48). A role that no name of R31 has is BAD_PARAM, a station is held to R180's text characters
(log 32), and of one longer than four characters the first four are kept (log 49). `u` is the state before the scanner's
check. -/
def Obligations.ChwrRewritesAnEntry : Prop :=
  ∀ (s : State) (p : Port) (i : Nat) (f : ChannelFields), s.admits p .chwr →
    let letters : Text → Prop := fun t => ∀ c ∈ foldText t, isUpper c = true
    let held := (s.port p).hold
    (3 ≤ f.role → exec (.chwr p i f) s = .next (s.respond p .badParam [])) ∧
    ∀ role : ChannelRole, role.code = f.role →
      let ok := i ≤ 23 ∧ f.floor ≤ 255 ∧ isText f.station = true ∧
        (f.valid = true → 16000 ≤ f.freq ∧ f.freq ≤ 300000 ∧
          (role = .traffic → f.station.length = 4 ∧ letters f.station) ∧
          (role = .broadcast → 2 ≤ f.station.length ∧ letters (f.station.take 2)))
      let inUse := s.grantChannel = some i ∨ (∃ w ∈ s.windows, w.state = .active ∧ w.channel = i) ∨
        s.own.state ≠ .none ∧
          ((s.channel i).valid = true ∧ (s.channel i).role = .distress ∨ f.valid = true ∧ role = .distress)
      (¬ ok → exec (.chwr p i f) s = .next (s.respond p .badParam [])) ∧
      (ok → (∀ lost, held ≠ some ⟨.channel i, lost⟩) → exec (.chwr p i f) s =
        .next ((s.setPort p { s.port p with hold := none }).respond p .noHold [])) ∧
      (ok → held = some ⟨.channel i, true⟩ → exec (.chwr p i f) s =
        .next ((s.setPort p { s.port p with hold := none }).respond p .holdLost [])) ∧
      (ok → held = some ⟨.channel i, false⟩ → inUse → exec (.chwr p i f) s = .next (s.respond p .inUse [])) ∧
      (ok → held = some ⟨.channel i, false⟩ → ¬ inUse →
        ∃ u : State, exec (.chwr p i f) s = .next (u.settle.respond p .ok []) ∧ Signal.scannerCheck ∈ u.signals ∧
          u.channels = s.channels.modify i (fun _ =>
            { valid := f.valid, role := role, freq := f.freq, station := (foldText f.station).take 4, floor := f.floor, score := 0,
              poor := false, last := none, smooth := none, scanned := none, good := none }) ∧
          (u.port p).hold = none ∧
          (∀ q, q ≠ p → ∀ lost, (s.port q).hold = some ⟨.channel i, lost⟩ → (u.port q).hold = some ⟨.channel i, true⟩) ∧
          (∀ q, q ≠ p → (∀ lost, (s.port q).hold ≠ some ⟨.channel i, lost⟩) → u.port q = s.port q) ∧
          (∀ c, s.sampler = some c → c.entry = i → u.sampler = some { c with void := true }) ∧
          (i < s.channels.length → s.watch.entry = some i → f.valid = true → role = .distress →
            u.watch = { s.watch with word := f.freq, entry := some i, state := .settling, since := s.time.elapsed } ∧
            u.wstb = s.wstb + 1) ∧
          (i < s.channels.length → s.watch.entry = some i → (f.valid = false ∨ role ≠ .distress) →
            (∀ j, nextEntry (some i) u.watchList = some j →
              u.watch = { s.watch with word := (s.channel j).freq, entry := some j, state := .settling, since := s.time.elapsed } ∧
              u.wstb = s.wstb + 1) ∧
            (nextEntry (some i) u.watchList = none →
              u.watch = { s.watch with state := .idle, entry := none } ∧ u.watchPath = s.watchPath)) ∧
          (i < s.channels.length → s.watch.entry ≠ some i → s.watch.state = .idle → f.valid = true → role = .distress →
            ∃ j, nextEntry none u.watchList = some j ∧ u.wstb = s.wstb + 1 ∧
              u.watch = { s.watch with word := (u.channel j).freq, entry := some j, state := .settling, since := s.time.elapsed }) ∧
          (s.watch.entry ≠ some i → s.watch.state ≠ .idle ∨ f.valid = false ∨ role ≠ .distress →
            u.watch = s.watch ∧ u.wstb = s.wstb ∧ u.watchPath = s.watchPath) ∧
          u = { s with channels := u.channels, ports := u.ports, sampler := u.sampler, watch := u.watch,
                       wstb := u.wstb, watchPath := u.watchPath, signals := u.signals })

/-- R66, R51: TUNE. Its tests in their order, then a TUNE claim with the index and the duration; the response says
whether it was granted at once, by a flag (log 19). The claim waits while another holds the transceiver, and is granted
where none does. `u` is the state before the hand-offs. R67: on GRANTED it tunes its entry, or releases where that is no
longer valid; SETTLED makes its TX request; on TUNE_REFUSED, BLOCKED, KEY_FAULT and a release request it releases. What
a release does, and the gate closing, stand in RevokeAndCarrierEnd. -/
def Obligations.TuneClaims : Prop :=
  (∀ (s : State) (p : Port) (i d : Nat), s.admits p .tune →
     let ok := i ≤ 23 ∧ 1 ≤ d ∧ d ≤ 30
     let closed := s.time.state ≠ .locked ∨ s.own.state ≠ .none ∨ s.silence.running = true ∨ s.fault.state = .lockout
     let claimed := s.holder = some .tune ∨ Claimant.tune ∈ s.arb.waiting
     (¬ ok → exec (.tune p i d) s = .next (s.respond p .badParam [])) ∧
     (ok → closed → exec (.tune p i d) s = .next (s.respond p .wrongState [])) ∧
     (ok → ¬ closed → (s.channel i).valid = false → exec (.tune p i d) s = .next (s.respond p .noChannel [])) ∧
     (ok → ¬ closed → (s.channel i).valid = true → claimed → exec (.tune p i d) s = .next (s.respond p .inUse [])) ∧
     (ok → ¬ closed → (s.channel i).valid = true → ¬ claimed →
       (s.arb.grant = none → ∃ u : State, exec (.tune p i d) s = .next (u.settle.respond p .ok (emitFlag true)) ∧
         u.arb.tune = some ⟨i, d⟩ ∧ u.holder = some .tune ∧ u.grantChannel = none ∧ u.phase = some .rx ∧
         Signal.granted .tune ∈ u.signals ∧ u.steady = s.steady) ∧
       (∀ g, s.arb.grant = some g → ∃ u : State,
         exec (.tune p i d) s = .next (u.settle.respond p .ok (emitFlag false)) ∧
         u.arb.tune = some ⟨i, d⟩ ∧ u.arb.waiting = s.arb.waiting ++ [.tune] ∧ u.holder = some g.holder ∧
         u.steady = s.steady))) ∧
  ∀ s : State, s.holder = some .tune →
    let gone := s.release .tune
    (∀ x, s.arb.tune = some x →
      let u := s.handle (.granted .tune)
      ((s.channel x.entry).valid = false → u = gone) ∧
      ((s.channel x.entry).valid = true → s.phase ≠ some .tx → u.holder = some .tune ∧ u.grantChannel = some x.entry ∧
        u.phase = some .settling ∧ u.tuner = ⟨(s.channel x.entry).freq, false⟩ ∧ u.tstb = s.tstb + 1 ∧
        u.arb.tune = s.arb.tune ∧ u.steady = s.steady)) ∧
    s.handle (.settled .tune) = s.txRequest .tune ∧ s.handle (.tuneRefused .tune) = gone ∧ s.handle (.blocked .tune) = gone ∧
    s.handle (.keyFault .tune) = gone ∧ (s.asked .tune = true → s.handle (.releaseRequest .tune) = gone)

/-- R64, R65: FACK and FCLR. FACK acts in PENDING and leaves LOCKOUT as it was; FCLR acts in both, clearing both faults
and the lockout count. The response carries the record as it stood; the alarm cause FAULT becomes inactive and the link
engine tests its conditions (R125). Neither changes the key monitor. -/
def Obligations.FaultRecordCommands : Prop :=
  ∀ (s : State) (p : Port),
    let f := s.fault
    let entry : FaultEntry → List Byte := fun e => u8 e.kind.code ++ emitStamp e.time ++
      emitOpt (fun (c : Claimant) => u8 c.code) e.holder ++ emitOpt u8 e.channel
    let record := u8 f.state.code ++ emitOpt entry f.first ++ emitOpt entry f.second ++ u8 f.count
    let cleared : FaultRecord → State := fun r =>
      (({ s with fault := r }.alarmActive .fault false).post .linkTest).settle
    (s.admits p .fack →
      (f.state ≠ .pending → exec (.fack p) s = .next (s.respond p .wrongState [])) ∧
      (f.state = .pending → exec (.fack p) s =
        .next ((cleared { f with state := .none, first := none }).respond p .ok record))) ∧
    (s.admits p .fclr →
      (f.state = .none → exec (.fclr p) s = .next (s.respond p .wrongState [])) ∧
      (f.state ≠ .none → exec (.fclr p) s =
        .next ((cleared { state := .none, first := none, second := none, count := 0 }).respond p .ok record)))

/-! ## Console commands on the message store (chapter 5) -/

/-- R75: an allocation request. The candidates come by class and oldest first within a class. Where the need is met
nothing is evicted; else candidates are deleted one at a time, in their order, until it is; where deleting every one
leaves it unmet, the request fails. -/
def Obligations.RequestsEvictInOrder : Prop :=
  ∀ (st : Store) (now : Int) (slots pages : Nat),
    let cls : Nat → Option Nat := fun n =>
      match (st.slot n).map Record.body with
      | some (.outbound o) => if o.state = .delivered then some 2 else none
      | some (.inbound i) => if i.state = .complete ∧ i.read = true then some 3 else none
      | some (.bulletin b) =>
        if b.key.subject = 0x57#8 then none else if b.expiry ≤ now then some 1 else if b.complete then some 4 else some 5
      | none => none
    let oldest : Nat → List Nat := fun k => st.age.filter fun n => decide (cls n = some k)
    let candidates := oldest 1 ++ oldest 2 ++ oldest 3 ++ oldest 4 ++ oldest 5
    let after : Nat → Store := fun k => (candidates.take k).foldl (fun st n => st.delete .eviction n) st
    let met : Store → Prop := fun st => slots ≤ st.freeSlots ∧ pages ≤ st.free.length
    (∀ k, k ≤ candidates.length → met (after k) → (∀ j, j < k → ¬ met (after j)) →
      st.request now slots pages = some (after k)) ∧
    ((∀ k, k ≤ candidates.length → ¬ met (after k)) → st.request now slots pages = none)

/-- R79, R75: DOPN. Its tests in their order, then a DRAFT in the lowest free slot, at the tail of the age list. R80,
R75, R69: DAPP. Its tests in their order, then the characters, folded to capitals, after the last one held, with the
pages they need from the head of the free list at the tail of the draft's. R77: each is followed by the test of the
low-space watch, and STORE_LOW is raised where it goes from ARMED to LOW; no other notice is. -/
def Obligations.DraftsAreWritten : Prop :=
  (∀ (s : State) (p : Port) (cls : Nat) (dest : Text), s.admits p .dopn →
     let ok := cls ≤ 2 ∧ dest.length = 4 ∧ ∀ c ∈ foldText dest, isUpper c = true
     let barred := cls = 0 ∧ (s.port p).role = .catch_
     (¬ ok → exec (.dopn p cls dest) s = .next (s.respond p .badParam [])) ∧
     (ok → barred → exec (.dopn p cls dest) s = .next (s.respond p .role [])) ∧
     (ok → ¬ barred → s.store.request s.clock 1 0 = none → exec (.dopn p cls dest) s = .next (s.respond p .slotsFull [])) ∧
     ∀ (st : Store) (c : MsgClass), ok → ¬ barred → s.store.request s.clock 1 0 = some st → c.code = cls →
       ∃ t : State, exec (.dopn p cls dest) s = .next (t.respond p .ok (u8 st.lowestFree)) ∧
         t.record st.lowestFree = some
           { origin := some p, created := ⟨s.time.reading, s.time.state⟩,
             body := .outbound { state := .draft, cls := c, dest := foldText dest, msg := none, resume := 0, attempts := 0,
                                 retry := none, failure := none, hauls := [], text := [], pages := [] } } ∧
         (∀ m, m ≠ st.lowestFree → t.record m = st.slot m) ∧ t.store.age = st.age ++ [st.lowestFree] ∧
         t.store.free = st.free ∧ t.store.part = st.part ∧ t.steady = s.steady ∧ s.lowTested t ∧
         (∀ q, t.port q = { s.port q with noticed := (s.port q).noticed ||| s.lowBit t }) ∧
         t = { s with store := t.store, ports := t.ports }) ∧
  (∀ (s : State) (p : Port) (n : Nat) (chars : Text), s.admits p .dapp →
     let ok := n ≤ 63 ∧ 1 ≤ chars.length ∧ chars.length ≤ 200 ∧ ∀ c ∈ foldText chars, (symbolOf c).isSome = true
     (¬ ok → exec (.dapp p n chars) s = .next (s.respond p .badParam [])) ∧
     (ok → s.record n = none → exec (.dapp p n chars) s = .next (s.respond p .noRecord [])) ∧
     (∀ r, ok → s.record n = some r → (∀ o, r.body = .outbound o → o.state ≠ .draft) →
       exec (.dapp p n chars) s = .next (s.respond p .wrongState [])) ∧
     ∀ r o, ok → s.record n = some r → r.body = .outbound o → o.state = .draft →
       let length := o.text.length + chars.length
       let need := (length + 63) / 64 - o.pages.length
       (r.origin ≠ some p → exec (.dapp p n chars) s = .next (s.respond p .role [])) ∧
       (r.origin = some p → 8192 < length → exec (.dapp p n chars) s = .next (s.respond p .badParam [])) ∧
       (r.origin = some p → length ≤ 8192 → s.store.request s.clock 0 need = none →
         exec (.dapp p n chars) s = .next (s.respond p .storeFull [])) ∧
       ∀ st, r.origin = some p → length ≤ 8192 → s.store.request s.clock 0 need = some st →
         ∃ t : State, exec (.dapp p n chars) s = .next (t.respond p .ok (u16 length)) ∧
           (let written : Outbound := { o with text := o.text ++ foldText chars, pages := o.pages ++ st.free.take need }
            t.record n = some { r with body := .outbound written }) ∧
           (∀ m, m ≠ n → t.record m = st.slot m) ∧ t.store.free = st.free.drop need ∧ t.store.age = st.age ∧
           t.store.part = st.part ∧ t.steady = s.steady ∧ s.lowTested t ∧
           (∀ q, t.port q = { s.port q with noticed := (s.port q).noticed ||| s.lowBit t }) ∧
           t = { s with store := t.store, ports := t.ports })

/-- R81, R85, R76: DDIS and MDEL. Their tests in their order; each deletes the record as a master deletion, DDIS giving
the number of pages returned, MDEL the kind and state the record had, and is followed by the test of the low-space watch
(R77), STORE_LOW raised where it falls. R84: MRKR. Its refusals in their order, then the read flag of the INBOUND
record, in any of its states; nothing else of the store changes. -/
def Obligations.RecordsAreDeletedAndMarked : Prop :=
  (∀ (s : State) (p : Port) (n : Nat),
     let gone : State → Record → Prop := fun t r =>
       s.deletes t n r ∧ (∀ q, t.port q = { s.port q with noticed := (s.port q).noticed ||| s.lowBit t }) ∧
       t.steady = s.steady ∧ t = { s with store := t.store, ports := t.ports }
     (s.admits p .ddis →
       (63 < n → exec (.ddis p n) s = .next (s.respond p .badParam [])) ∧
       (n ≤ 63 → s.record n = none → exec (.ddis p n) s = .next (s.respond p .noRecord [])) ∧
       (∀ r, n ≤ 63 → s.record n = some r → (∀ o, r.body = .outbound o → o.state ≠ .draft) →
         exec (.ddis p n) s = .next (s.respond p .wrongState [])) ∧
       ∀ r o, n ≤ 63 → s.record n = some r → r.body = .outbound o → o.state = .draft →
         (r.origin ≠ some p → exec (.ddis p n) s = .next (s.respond p .role [])) ∧
         (r.origin = some p → ∃ t : State, exec (.ddis p n) s = .next (t.respond p .ok (u8 o.pages.length)) ∧ gone t r)) ∧
     (s.admits p .mdel →
       (63 < n → exec (.mdel p n) s = .next (s.respond p .badParam [])) ∧
       (n ≤ 63 → s.record n = none → exec (.mdel p n) s = .next (s.respond p .noRecord [])) ∧
       ∀ r, n ≤ 63 → s.record n = some r →
         let mine := (s.port p).role = .radio ∨ r.origin = some p
         let inFlight := (∃ o, r.body = .outbound o ∧ (o.state = .queued ∨ o.state = .sending)) ∨
           ∃ i, r.body = .inbound i ∧ i.state = .receiving
         (¬ mine → exec (.mdel p n) s = .next (s.respond p .role [])) ∧
         (mine → inFlight → exec (.mdel p n) s = .next (s.respond p .inFlight [])) ∧
         (mine → ¬ inFlight → ∃ t : State,
           exec (.mdel p n) s = .next (t.respond p .ok (u8 r.body.kindCode ++ u8 r.body.stateCode)) ∧ gone t r))) ∧
  (∀ (s : State) (p : Port) (n : Nat), s.admits p .mrkr →
     (63 < n → exec (.mrkr p n) s = .next (s.respond p .badParam [])) ∧
     (n ≤ 63 → s.record n = none → exec (.mrkr p n) s = .next (s.respond p .noRecord [])) ∧
     (∀ r, n ≤ 63 → s.record n = some r → (∀ i, r.body ≠ .inbound i) →
       exec (.mrkr p n) s = .next (s.respond p .wrongState [])) ∧
     ∀ r i, n ≤ 63 → s.record n = some r → r.body = .inbound i →
       ∃ t : State, exec (.mrkr p n) s = .next (t.respond p .ok (u8 i.state.code)) ∧
         (∀ m, t.record m = if m = n then some { r with body := .inbound { i with read := true } } else s.record m) ∧
         t = { s with store := { s.store with slots := t.store.slots } })

/-! ## Console commands on the haul log (chapter 6) -/

/-- R87 to R92: HADD. BAD_PARAM for a content that is not well formed, SPECIES_FULL, LOG_FULL; then, in one event, the
fold of the first REPORTED haul of a log of 96 with its weights carried and its holds lost, entries for new species in
the order of the pairs, the haul with its defaults and position, its weights in the trip totals, the next haul number,
and HAUL on the other ports. -/
def Obligations.HaddAddsAHaul : Prop :=
  ∀ (s : State) (p : Port) (c : HaulContent), s.admits p .hadd →
    let last := c.last.getD s.time.reading
    let first := c.first.getD last
    let ok := (∀ r, c.first = some r → readingOk r = true) ∧ (∀ r, c.last = some r → readingOk r = true) ∧
      instant first ≤ instant last ∧ (s.time.state ≠ .unset → instant last ≤ instant s.time.reading + 60) ∧
      (∀ g, c.pos = .given g → s.givenOk g = true) ∧ isUpper (foldChar c.gear) = true ∧
      1 ≤ c.species.length ∧ c.species.length ≤ 6 ∧
      (∀ q ∈ c.species, q.1.length = 3 ∧ (∀ x ∈ foldText q.1, isUpper x = true) ∧ q.2 ≤ 999999) ∧
      (c.species.map fun q => foldText q.1).Nodup
    let species := c.species.map fun q => (foldText q.1, q.2)
    let fresh := (species.map (·.1)).filter fun x => decide (s.log.totalsOf x = none)
    let full := s.log.next = none ∨ 96 ≤ s.log.hauls.length ∧ ∀ h ∈ s.log.hauls, h.state ≠ .reported
    let folded := if 96 ≤ s.log.hauls.length then s.log.hauls.find? (fun h => decide (h.state = .reported)) else none
    let pos := match c.pos with
      | .given g => HaulPosition.present g.lat g.lon ⟨g.fix.getD s.time.reading, s.time.state⟩
      | .current => if s.positionStale = some false then .present s.position.lat s.position.lon s.position.fix else .pending
      | .absent => .absent
    (¬ ok → exec (.hadd p c) s = .next (s.respond p .badParam [])) ∧
    (ok → 32 < s.log.totals.length + fresh.length → exec (.hadd p c) s = .next (s.respond p .speciesFull [])) ∧
    (ok → s.log.totals.length + fresh.length ≤ 32 → full → exec (.hadd p c) s = .next (s.respond p .logFull [])) ∧
    ∀ n, ok → s.log.totals.length + fresh.length ≤ 32 → ¬ full → s.log.next = some n →
      ∃ t : State, exec (.hadd p c) s = .next (t.respond p .ok
          (u16 n ++ u8 pos.code ++ (if pos = .pending then [1#8, if s.position.valid then 1#8 else 0#8] else [0#8]) ++
            emitOpt (fun (h : Haul) => u16 h.number) folded)) ∧
        t.log.hauls = (match folded with
          | some f => s.log.hauls.filter fun h => decide (h.number ≠ f.number)
          | none => s.log.hauls) ++
          [{ number := n, state := .unreported, cor := false, first := ⟨first, s.time.state⟩, last := ⟨last, s.time.state⟩,
             pos := pos, gear := foldChar c.gear, species := species, report := none, origin := p }] ∧
        t.log.next = (if 999 ≤ n then none else some (n + 1)) ∧ t.log.reports = s.log.reports ∧
        t.log.totals.map (·.code) = s.log.totals.map (·.code) ++ fresh ∧
        (∀ x ∈ fresh, t.log.totalsOf x = some (weightOf x species, 0)) ∧
        (∀ x total carried, s.log.totalsOf x = some (total, carried) → t.log.totalsOf x =
          some (total + weightOf x species, carried + folded.elim 0 fun f => weightOf x f.species)) ∧
        (∀ q, t.port q =
          let c : PortCtx := match folded with
            | some f => s.haulLost f.number q
            | none => s.port q
          if q = p then c else { c with noticed := c.noticed ||| 0x0800#16 }) ∧
        t = { s with log := t.log, ports := t.ports }

/-- R95, R96, R184: HAMD. BAD_PARAM, the hold test, IN_FLIGHT for a haul whose report is SENDING or QUEUED with a resume
point above 0, SPECIES_FULL; then, for an UNREPORTED or a REPORTED haul, the new content, the correction flag of a
REPORTED haul, entries for new species at the tail, the totals moved, the port's hold cleared, the other ports' holds on
the haul lost and HAUL on the other ports. R96, R97: HAMD on a REPORTING haul whose report is QUEUED at resume point 0
withdraws the report first: its entry leaves the queue, its record is deleted as a master deletion, and every haul it
lists becomes UNREPORTED without its report number. The content then replaces the haul's, the totals moving as before
(R88), the other ports' holds on the haul are lost, HAUL is raised on all ports, the issuing one among them (log 54),
and the response names the report, its message and its hauls. It carries the haul, then why its position is PENDING
where it is, then the report withdrawn, each behind its presence byte: what it holds and its order are the model's
choice (log 19). That the report is the only open one with its slot holds of the model's states (R101). -/
def Obligations.HaulsAreAmended : Prop :=
  (∀ (s : State) (p : Port) (n : Nat) (c : HaulContent), s.admits p .hamd →
     let ok := 1 ≤ n ∧ n ≤ 999 ∧ s.contentOk c = true
     let held := (s.port p).hold
     let new := s.take c
     let why : List Byte := if new.pos = .pending then [1#8, if s.position.valid then 1#8 else 0#8] else [0#8]
     let fresh := (new.species.map (·.1)).filter fun x => decide (s.log.totalsOf x = none)
     let fits := s.log.totals.length + fresh.length ≤ 32
     (¬ ok → exec (.hamd p n c) s = .next (s.respond p .badParam [])) ∧
     (ok → (∀ lost, held ≠ some ⟨.haul n, lost⟩) → exec (.hamd p n c) s =
       .next ((s.setPort p { s.port p with hold := none }).respond p .noHold [])) ∧
     (ok → held = some ⟨.haul n, true⟩ → exec (.hamd p n c) s =
       .next ((s.setPort p { s.port p with hold := none }).respond p .holdLost [])) ∧
     ∀ h, ok → held = some ⟨.haul n, false⟩ → s.log.hauls.find? (fun x => decide (x.number = n)) = some h →
       (∀ r o, h.state = .reporting → s.log.reports.find? (fun r => decide (n ∈ r.hauls)) = some r →
         s.outbound r.slot = some o → o.state = .sending ∨ o.state = .queued ∧ 0 < o.resume →
         exec (.hamd p n c) s = .next (s.respond p .inFlight [])) ∧
       (h.state ≠ .reporting → ¬ fits → exec (.hamd p n c) s = .next (s.respond p .speciesFull [])) ∧
       (∀ r o, h.state = .reporting → s.log.reports.find? (fun r => decide (n ∈ r.hauls)) = some r →
         s.outbound r.slot = some o → o.state = .queued → o.resume = 0 → ¬ fits →
         exec (.hamd p n c) s = .next (s.respond p .speciesFull [])) ∧
       (h.state ≠ .reporting → fits →
         let kept : Haul := if h.state = .reported then { h with state := .unreported, cor := true, report := none } else h
         let amended : Haul := { kept with first := new.first, last := new.last, pos := new.pos, gear := new.gear,
                                           species := new.species }
         ∃ t : State, exec (.hamd p n c) s = .next (t.respond p .ok (emitHaul amended ++ why ++ [0#8])) ∧
           t.log.hauls.find? (fun x => decide (x.number = n)) = some amended ∧
           (∀ m, m ≠ n → t.log.hauls.find? (fun x => decide (x.number = m)) =
             s.log.hauls.find? (fun x => decide (x.number = m))) ∧
           t.log.hauls.map (·.number) = s.log.hauls.map (·.number) ∧
           (∀ x total carried, s.log.totalsOf x = some (total, carried) → t.log.totalsOf x =
             some (total + weightOf x new.species - weightOf x h.species, carried)) ∧
           t.log.totals.map (·.code) = s.log.totals.map (·.code) ++ fresh ∧
           (∀ x ∈ fresh, t.log.totalsOf x = some (weightOf x new.species - weightOf x h.species, 0)) ∧
           t.log.next = s.log.next ∧ t.log.reports = s.log.reports ∧
           (∀ q, t.port q = if q = p then { s.port p with hold := none }
             else { s.haulLost n q with noticed := (s.port q).noticed ||| 0x0800#16 }) ∧
           t = { s with log := t.log, ports := t.ports })) ∧
  (∀ (s : State) (p : Port) (n : Nat) (c : HaulContent) (h : Haul) (r : OpenReport) (rec : Record) (o : Outbound),
     s.admits p .hamd → 1 ≤ n → n ≤ 999 → s.contentOk c = true → (s.port p).hold = some ⟨.haul n, false⟩ →
     s.log.hauls.find? (fun x => decide (x.number = n)) = some h → h.state = .reporting →
     s.log.reports.find? (fun r => decide (n ∈ r.hauls)) = some r →
     s.log.reports.find? (fun x => decide (x.slot = r.slot)) = some r → s.record r.slot = some rec → rec.body = .outbound o →
     o.state = .queued → o.resume = 0 →
       let new := s.take c
       let fresh := (new.species.map (·.1)).filter fun x => decide (s.log.totalsOf x = none)
       s.log.totals.length + fresh.length ≤ 32 →
       let why : List Byte := if new.pos = .pending then [1#8, if s.position.valid then 1#8 else 0#8] else [0#8]
       let amended : Haul := { h with state := .unreported, report := none, first := new.first, last := new.last,
                                      pos := new.pos, gear := new.gear, species := new.species }
       ∃ t : State, exec (.hamd p n c) s = .next (t.respond p .ok
           (emitHaul amended ++ why ++ [1#8] ++ u16 r.report ++ u16 r.msg ++ emitList (r.hauls.map u16))) ∧
         t.log.hauls.find? (fun x => decide (x.number = n)) = some amended ∧
         (∀ m, m ≠ n → t.log.hauls.find? (fun x => decide (x.number = m)) =
           (s.log.hauls.find? (fun x => decide (x.number = m))).map fun x =>
             if m ∈ r.hauls then { x with state := .unreported, report := none } else x) ∧
         (∀ x total carried, s.log.totalsOf x = some (total, carried) → t.log.totalsOf x =
           some (total + weightOf x new.species - weightOf x h.species, carried)) ∧
         t.log.totals.map (·.code) = s.log.totals.map (·.code) ++ fresh ∧
         (∀ x ∈ fresh, t.log.totalsOf x = some (weightOf x new.species - weightOf x h.species, 0)) ∧
         t.log.hauls.map (·.number) = s.log.hauls.map (·.number) ∧ t.log.next = s.log.next ∧
         t.log.reports = s.log.reports.filter (fun x => decide (x.slot ≠ r.slot)) ∧ s.deletes t r.slot rec ∧
         t.queue = { s.queue with entries := s.queue.entries.filter (fun x => decide (x ≠ r.slot)) } ∧
         (t.port p).hold = none ∧ (∀ q, (t.port q).noticed &&& 0x0800#16 ≠ 0) ∧
         (∀ q, t.port q = { (if q = p then { s.port p with hold := none } else s.haulLost n q) with
           noticed := (s.port q).noticed ||| 0x0800#16 ||| s.lowBit t }) ∧
         t = { s with log := t.log, store := t.store, queue := t.queue, ports := t.ports })

/-- R98, R99, R184: HDEL and TRIP. HDEL: BAD_PARAM, the hold test, WRONG_STATE for a haul reported or corrected; then
its weights leave the trip totals and the haul the log. TRIP: BAD_PARAM, OPEN_HAULS; then log and totals are emptied,
haul and report numbers begin at 1 and the trip number is written. Holds on what is removed are lost; HAUL goes to the
other ports. -/
def Obligations.HdelAndTrip : Prop :=
  ∀ (s : State) (p : Port) (n : Nat),
    (s.admits p .hdel →
      let held := (s.port p).hold
      let ok := 1 ≤ n ∧ n ≤ 999
      (¬ ok → exec (.hdel p n) s = .next (s.respond p .badParam [])) ∧
      (ok → (∀ lost, held ≠ some ⟨.haul n, lost⟩) → exec (.hdel p n) s =
        .next ((s.setPort p { s.port p with hold := none }).respond p .noHold [])) ∧
      (ok → held = some ⟨.haul n, true⟩ → exec (.hdel p n) s =
        .next ((s.setPort p { s.port p with hold := none }).respond p .holdLost [])) ∧
      ∀ h, ok → held = some ⟨.haul n, false⟩ → s.log.hauls.find? (fun x => decide (x.number = n)) = some h →
        (h.state ≠ .unreported ∨ h.cor = true → exec (.hdel p n) s = .next (s.respond p .wrongState [])) ∧
        (h.state = .unreported → h.cor = false →
          ∃ t : State, exec (.hdel p n) s = .next (t.respond p .ok (emitHaul h)) ∧
            t.log.hauls = s.log.hauls.filter (fun x => decide (x.number ≠ n)) ∧ t.log.next = s.log.next ∧
            t.log.reports = s.log.reports ∧ t.log.totals = s.log.totals.map (fun (x : SpeciesTotal) =>
              { x with total := x.total - weightOf x.code h.species }) ∧
            (∀ q, t.port q = if q = p then { s.port p with hold := none }
              else { s.haulLost n q with noticed := (s.port q).noticed ||| 0x0800#16 }) ∧
            t = { s with log := t.log, ports := t.ports })) ∧
    (s.admits p .trip →
      (999 < n → exec (.trip p n) s = .next (s.respond p .badParam [])) ∧
      (n ≤ 999 → (∃ h ∈ s.log.hauls, h.state ≠ .reported) → exec (.trip p n) s = .next (s.respond p .openHauls [])) ∧
      (n ≤ 999 → (∀ h ∈ s.log.hauls, h.state = .reported) →
        ∃ t : State, exec (.trip p n) s = .next (t.respond p .ok (u16 n ++ u8 s.log.hauls.length)) ∧
          t.log = { hauls := [], totals := [], next := some 1, reports := s.log.reports } ∧
          t.ident = { s.ident with trip := n, nextReport := 1 } ∧
          (∀ q m lost, (s.port q).hold = some ⟨.haul m, lost⟩ → (t.port q).hold = some ⟨.haul m, true⟩) ∧
          (∀ q, (∀ m lost, (s.port q).hold ≠ some ⟨.haul m, lost⟩) → (t.port q).hold = (s.port q).hold) ∧
          (∀ q, (t.port q).noticed = if q = p then (s.port q).noticed else (s.port q).noticed ||| 0x0800#16) ∧
          t = { s with log := t.log, ident := t.ident, ports := t.ports }))

/-- R100: TOTL, given on a port of any role, answers the trip and report numbers, the next haul number, the hauls in
each state and those with the correction flag, the number of species, up to 16 species from the starting index in table
order and the number of open reports. An index above 31 is refused. It changes no state but its port's. -/
def Obligations.TotlReadsTheTotals : Prop :=
  (∀ r : Role, Tag.totl.permits r = true) ∧
  ∀ (s : State) (p : Port) (n : Nat), s.atRest → s.running = true → (s.port p).state = .ready →
    (31 < n → exec (.totl p n) s = .next (s.respond p .badParam [])) ∧
    (n ≤ 31 →
      let hauls : HaulState → Nat := fun st => (s.log.hauls.filter fun h => decide (h.state = st)).length
      let shown := (s.log.totals.drop n).take 16
      exec (.totl p n) s = .next (s.respond p .ok
        (u16 s.ident.trip ++ u16 s.ident.nextReport ++
          (match s.log.next with
           | some k => 1#8 :: u16 k
           | none => [0#8]) ++
          u8 (hauls .unreported) ++ u8 (hauls .reporting) ++ u8 (hauls .reported) ++
          u8 (s.log.hauls.filter (·.cor)).length ++ u8 s.log.totals.length ++ u8 shown.length ++
          (shown.map fun x => emitText x.code ++ u32 x.total ++ u32 x.carried).flatten ++ u8 s.log.reports.length)))

/-- R102 to R104, R30: CREP. Its tests in their order; then, in one event, an OUTBOUND record in the lowest free slot,
QUEUED, of class CATCH, with the body composed at the command and the numbers of the first 24 UNREPORTED hauls, enqueued
with the next message number; the next report number taken; the hauls REPORTING with it; an open report entry; and HAUL
on the other ports. The body is spelled: the header line, a line per haul with its position as R103 writes it, a pending
one by a reading that is valid and not stale (R28), and a line per species of the totals. The low-space watch is tested,
and STORE_LOW raised where it falls (R77). `u` is the state before the link engine is told of the traffic. -/
def Obligations.CrepComposesAReport : Prop :=
  ∀ (s : State) (p : Port) (dest : Text), s.admits p .crep →
    let ok := dest.length = 4 ∧ ∀ c ∈ foldText dest, isUpper c = true
    let hauls := (s.log.hauls.filter fun h => decide (h.state = .unreported)).take 24
    let numbers := hauls.map (·.number)
    let now := s.time.reading
    let line : List Text → Text := fun fields => spaced fields ++ [0x0A#8]
    let date := digits 4 now.year ++ [0x2D#8] ++ digits 2 now.month ++ [0x2D#8] ++ digits 2 now.day
    let headerLine := line ([chars ['C', 'A', 'T', 'C', 'H'], s.ident.vessel, chars ['T', 'R', 'I', 'P'], decimal s.ident.trip,
      chars ['R', 'E', 'P'], decimal s.ident.nextReport, date, digits 2 now.hour ++ digits 2 now.minute ++ [0x5A#8]] ++
      (if s.time.state = .locked then [] else [chars ['A', 'P', 'P', 'R', 'O', 'X']]))
    let angle : Nat → Int → Byte → Byte → Text := fun width a plus minus =>
      digits width (a.natAbs / 600) ++ digits 2 (a.natAbs % 600 / 10) ++ digits 1 (a.natAbs % 10) ++
        [if 0 ≤ a then plus else minus]
    let place : Int → Int → Text := fun lat lon => angle 2 lat 0x4E#8 0x53#8 ++ [0x2F#8] ++ angle 3 lon 0x45#8 0x57#8
    let noPosition := chars ['N', 'O', 'P', 'O', 'S']
    let fix := s.position.fix
    let stale := 14400 < instant now - instant fix.reading ∨ fix.state = .unset ∧ s.time.state ≠ .unset
    let printed : HaulPosition → Text := fun x => match x with
      | .present lat lon _ => place lat lon
      | .pending => if s.position.valid = true ∧ ¬ stale then place s.position.lat s.position.lon else noPosition
      | .absent => noPosition
    let minuteOf : Stamp → Text := fun t => digits 2 t.reading.day ++ digits 2 t.reading.hour ++ digits 2 t.reading.minute
    let haulLine : Haul → Text := fun h => line ((if h.cor then [chars ['C', 'O', 'R']] else []) ++
      [0x48#8 :: decimal h.number, minuteOf h.first ++ [0x2D#8] ++ minuteOf h.last, printed h.pos, [h.gear]] ++
      h.species.map fun x => x.1 ++ [0x2F#8] ++ decimal x.2)
    let totalsLine : SpeciesTotal → Text := fun x => line [chars ['T', 'O', 'T'], x.code, decimal x.total]
    let body := headerLine ++ (hauls.map haulLine).flatten ++ (s.log.totals.map totalsLine).flatten
    let need := (body.length + 63) / 64
    let barred := s.ident.vessel = [] ∨ hauls = []
    (¬ ok → exec (.crep p dest) s = .next (s.respond p .badParam [])) ∧
    (ok → barred → exec (.crep p dest) s = .next (s.respond p .wrongState [])) ∧
    (ok → ¬ barred → 48 ≤ s.queue.entries.length → exec (.crep p dest) s = .next (s.respond p .queueFull [])) ∧
    (ok → ¬ barred → s.queue.entries.length < 48 → s.store.request s.clock 1 0 = none →
      exec (.crep p dest) s = .next (s.respond p .slotsFull [])) ∧
    (ok → ¬ barred → s.queue.entries.length < 48 → (s.store.request s.clock 1 0).isSome = true →
      s.store.request s.clock 1 need = none → exec (.crep p dest) s = .next (s.respond p .storeFull [])) ∧
    ∀ st, ok → ¬ barred → s.queue.entries.length < 48 → (s.store.request s.clock 1 0).isSome = true →
      s.store.request s.clock 1 need = some st →
      let slot := st.lowestFree
      let report := s.ident.nextReport
      let msg := s.ident.nextMsg
      ∃ u : State, exec (.crep p dest) s = .next (u.settle.respond p .ok
          (u8 slot ++ u16 msg ++ u16 report ++ emitList (numbers.map u16) ++ u16 body.length)) ∧
        Signal.linkTest ∈ u.signals ∧
        u.record slot = some
          { origin := some p, created := ⟨s.time.reading, s.time.state⟩,
            body := .outbound { state := .queued, cls := .catch_, dest := foldText dest, msg := some msg, resume := 0,
                                attempts := 0, retry := none, failure := none, hauls := numbers, text := body,
                                pages := st.free.take need } } ∧
        (∀ m, m ≠ slot → u.record m = st.slot m) ∧ u.store.free = st.free.drop need ∧ u.store.age = st.age ++ [slot] ∧
        s.lowTested u ∧ (∀ q, (u.port q).noticed = (s.port q).noticed ||| s.lowBit u ||| if q = p then 0 else 0x0800#16) ∧
        State.joined s.queue.entries u slot ∧
        u.ident = { s.ident with nextMsg := if msg = 9999 then 1 else msg + 1,
                                 nextReport := if report = 999 then 1 else report + 1 } ∧
        u.log.hauls = s.log.hauls.map (fun (h : Haul) =>
          if h.number ∈ numbers then { h with state := .reporting, report := some report } else h) ∧
        u.log.reports = s.log.reports ++ [⟨report, slot, msg, numbers⟩] ∧ u.log.totals = s.log.totals ∧
        u.log.next = s.log.next ∧
        u.steady = { s.steady with ident := u.ident }

/-! ## Console commands on the outbound queue (chapter 7) -/

/-- R108, R30: DQUE. Its tests in their order; then the draft is QUEUED with the next message number, resume point and
attempts 0, no retry-after and no failure reason, and its entry joins after the last one of its class. `u` is the state
before the link engine is told of the traffic. R109: QEXP. Its tests in their order; then the entry stands before every
other one of its class, the others where they were, a retry-after running is stopped and the link engine told, the
attempts kept. `u` is the state before that. R110: QWDR. Its tests in their order. A record that is no catch report
leaves the queue and becomes a DRAFT without retry-after and failure reason; a catch report leaves the queue, its hauls
become UNREPORTED where its report is open, and it is deleted as a master deletion. The response says whether it was
deleted, by a flag (log 19). -/
def Obligations.QueueCommands : Prop :=
  (∀ (s : State) (p : Port) (n : Nat), s.admits p .dque →
     (63 < n → exec (.dque p n) s = .next (s.respond p .badParam [])) ∧
     (n ≤ 63 → s.record n = none → exec (.dque p n) s = .next (s.respond p .noRecord [])) ∧
     (∀ r, n ≤ 63 → s.record n = some r → (∀ o, r.body = .outbound o → o.state ≠ .draft) →
       exec (.dque p n) s = .next (s.respond p .wrongState [])) ∧
     ∀ r o, n ≤ 63 → s.record n = some r → r.body = .outbound o → o.state = .draft →
       let barred := r.origin ≠ some p ∨ o.cls = .urgent ∧ (s.port p).role = .catch_
       (barred → exec (.dque p n) s = .next (s.respond p .role [])) ∧
       (¬ barred → o.text = [] → exec (.dque p n) s = .next (s.respond p .wrongState [])) ∧
       (¬ barred → o.text ≠ [] → 48 ≤ s.queue.entries.length → exec (.dque p n) s = .next (s.respond p .queueFull [])) ∧
       (¬ barred → o.text ≠ [] → s.queue.entries.length < 48 →
         let msg := s.ident.nextMsg
         ∃ (u : State) (k : Nat), exec (.dque p n) s = .next (u.settle.respond p .ok
             (u16 msg ++ u16 (9 + (decimal o.text.length).length + o.text.length) ++ u8 (k + 1))) ∧
           Signal.linkTest ∈ u.signals ∧ u.queue.entries[k]? = some n ∧ State.joined s.queue.entries u n ∧
           (let queued : Outbound :=
              { o with state := .queued, msg := some msg, resume := 0, attempts := 0, retry := none, failure := none }
            ∀ m, u.record m = if m = n then some { r with body := .outbound queued } else s.record m) ∧
           u.ident = { s.ident with nextMsg := if msg = 9999 then 1 else msg + 1 } ∧
           u.steady = { s.steady with ident := u.ident })) ∧
  (∀ (s : State) (p : Port) (n : Nat), s.admits p .qexp →
     (63 < n → exec (.qexp p n) s = .next (s.respond p .badParam [])) ∧
     (n ≤ 63 → s.record n = none → exec (.qexp p n) s = .next (s.respond p .noRecord [])) ∧
     (∀ r o, n ≤ 63 → s.record n = some r → r.body = .outbound o → o.state = .sending →
       exec (.qexp p n) s = .next (s.respond p .inFlight [])) ∧
     (∀ r, n ≤ 63 → s.record n = some r → (∀ o, r.body = .outbound o → o.state ≠ .sending ∧ o.state ≠ .queued) →
       exec (.qexp p n) s = .next (s.respond p .wrongState [])) ∧
     ∀ r o, n ≤ 63 → s.record n = some r → r.body = .outbound o → o.state = .queued →
       ∃ (u : State) (k : Nat), exec (.qexp p n) s = .next (u.settle.respond p .ok (u8 (k + 1))) ∧
         u.queue.entries[k]? = some n ∧ State.expedited (s.queue.entries.filter fun x => decide (x ≠ n)) u n ∧
         (∀ m, u.record m = if m = n then some { r with body := .outbound { o with retry := none } } else s.record m) ∧
         (o.retry.isSome = true → Signal.linkTest ∈ u.signals) ∧ u.steady = s.steady ∧
         u = { s with queue := { s.queue with entries := u.queue.entries }, store := u.store, signals := u.signals }) ∧
  (∀ (s : State) (p : Port) (n : Nat), s.admits p .qwdr →
     (63 < n → exec (.qwdr p n) s = .next (s.respond p .badParam [])) ∧
     (n ≤ 63 → s.record n = none → exec (.qwdr p n) s = .next (s.respond p .noRecord [])) ∧
     ∀ r, n ≤ 63 → s.record n = some r →
       let mine := (s.port p).role = .radio ∨ r.origin = some p
       (¬ mine → exec (.qwdr p n) s = .next (s.respond p .role [])) ∧
       (mine → (∀ o, r.body = .outbound o → o.state = .draft ∨ o.state = .delivered) →
         exec (.qwdr p n) s = .next (s.respond p .wrongState [])) ∧
       (∀ o, mine → r.body = .outbound o → o.state = .sending ∨ o.state = .queued ∧ 0 < o.resume →
         exec (.qwdr p n) s = .next (s.respond p .inFlight [])) ∧
       ∀ o, mine → r.body = .outbound o → o.state = .failed ∨ o.state = .queued ∧ o.resume = 0 →
         let queue : OutQueue := { s.queue with entries := s.queue.entries.filter fun x => decide (x ≠ n) }
         (o.hauls = [] → ∃ t : State, exec (.qwdr p n) s = .next (t.respond p .ok [0#8]) ∧
           (let draft : Outbound := { o with state := .draft, retry := none, failure := none }
            ∀ m, t.record m = if m = n then some { r with body := .outbound draft } else s.record m) ∧
           t = { s with queue := queue, store := { s.store with slots := t.store.slots } }) ∧
         (o.hauls ≠ [] → ∃ t : State, exec (.qwdr p n) s = .next (t.respond p .ok [1#8]) ∧ s.deletes t n r ∧ t.queue = queue ∧
           (∀ x, s.log.reports.find? (fun x => decide (x.slot = n)) = some x →
             t.log = { s.log with
               hauls := s.log.hauls.map (fun (h : Haul) =>
                 if h.number ∈ x.hauls then { h with state := .unreported, report := none } else h),
               reports := s.log.reports.filter fun x => decide (x.slot ≠ n) } ∧
             ∀ q, (t.port q).noticed &&& 0x0800#16 ≠ 0) ∧
           (s.log.reports.find? (fun x => decide (x.slot = n)) = none → t.log = s.log) ∧ t.steady = s.steady ∧
           t = { s with queue := queue, store := t.store, log := t.log, ports := t.ports }))


/-! ## Commands that read (chapters 5 to 11) -/

/-- R82, R181: MRED. Its tests in their order, then the fields of the record, or of the part named, and the text from
the offset, cut to what the frame leaves, with the number of characters. It changes nothing but its port. R83: LIST,
given on a port of any role, answers up to 32 entries in ascending slot number from the starting slot, a flag for more,
the free slots and pages and the low-space watch, and changes nothing but its port. R93: HRED, in EXACT and in NEXT
mode, with its refusals, the flag for higher numbers and the hold it sets. No field of a haul changes. R111: QLST, given
on a port of any role, answers the entries in queue order from the starting position, as many of twelve as the frame
holds (R181), the number of entries, the number due and whether a check request is pending. It changes nothing but its
port. R145, R176, R187: SKRD with the next start and the hold it sets, HLST with as many of four entries as the frame
holds, and STAT with the port's role, hold and letter before the line named, given on a port of any role. The fields of
MRED, QLST and HLST and the ten lines of STAT are spelled byte by byte, in the order and the forms of log 19, the open
reports by their number (log 46), the position of a cycle from 0 (log 47), the time of a release request by log 9, the
length of a stream counting its header line (R72). SKRD's next start is the least one after the clock reading (logs 27,
43), outside the clock's range too (log 44). R181: a name is given by its place among the names of its rule. R181: the
byte form of each type of field. -/
def Obligations.ReadingCommands : Prop :=
  (∀ (s : State) (p : Port) (n offset count : Nat) (part : Option Nat), s.admits p .mred →
     let ok := n ≤ 63 ∧ count ≤ 200
     (¬ ok → exec (.mred p n offset count part) s = .next (s.respond p .badParam [])) ∧
     (ok → s.record n = none → exec (.mred p n offset count part) s = .next (s.respond p .noRecord [])) ∧
     ∀ r, ok → s.record n = some r →
       (∀ k, part = some k → (∀ b, r.body = .bulletin b → ∀ e ∈ b.parts, e.number ≠ k) →
         exec (.mred p n offset count part) s = .next (s.respond p .badParam [])) ∧
       ∀ (e : Option PartEntry) (text : Text),
         part = none ∧ e = none ∧ text = r.text ∨
           (∃ k b x, part = some k ∧ r.body = .bulletin b ∧ b.parts.find? (fun y => decide (y.number = k)) = some x ∧
             e = some x ∧ text = x.text) →
         let common := u8 n ++ u8 r.body.kindCode ++ u8 r.body.stateCode ++ emitOpt (fun q => [portLetter q]) r.origin ++
           emitStamp r.created ++ u16 r.text.length
         let left : Outbound → Option Nat := fun o => o.retry.map fun since => 900 - (s.time.elapsed - since).toNat
         let streamLength : Outbound → Nat := fun o => 9 + (decimal o.text.length).length + o.text.length
         let particular : List Byte := match r.body, e with
           | .outbound o, _ => u8 o.cls.code ++ emitText o.dest ++ emitOpt u16 o.msg ++ u16 o.resume ++ u8 o.attempts ++
               emitOpt u16 (left o) ++ emitOpt (fun (f : FailReason) => u8 f.code) o.failure ++
               (if o.hauls = [] then [0#8] else 1#8 :: emitList (o.hauls.map u16)) ++
               u16 (streamLength o)
           | .inbound i, _ => emitOpt u16 i.coastMsg ++ [i.addressee.letter] ++ emitOpt u16 i.declared ++
               u16 i.text.length ++ emitFlag i.read ++ emitFlag i.noHeader
           | .bulletin x, part => emitText x.key.office ++ [x.key.subject] ++ u8 x.key.area ++ u8 x.key.day ++ u8 x.key.hour ++
               u8 x.count ++ (match part with
                 | some y => u8 y.number ++ u16 y.damaged ++ emitStamp y.received ++ u16 y.text.length
                 | none => emitReading (readingAt x.expiry) ++ emitList (x.parts.map fun y => u8 y.number ++ u16 y.damaged))
         let fields := common ++ particular
         let piece := (text.drop offset).take (min count (246 - fields.length - 2))
         (text.length < offset → exec (.mred p n offset count part) s = .next (s.respond p .badParam [])) ∧
         (offset ≤ text.length → exec (.mred p n offset count part) s =
           .next (s.respond p .ok (fields ++ emitText piece ++ u8 piece.length)))) ∧
  ((∀ r : Role, Tag.list.permits r = true) ∧
   ∀ (s : State) (p : Port) (n : Nat), s.atRest → s.running = true → (s.port p).state = .ready →
     (63 < n → exec (.list p n) s = .next (s.respond p .badParam [])) ∧
     (n ≤ 63 →
       let used := (List.range s.store.slots.length).filter fun m => decide (n ≤ m) && (s.record m).isSome
       let entry : Nat → List Byte := fun m =>
         match s.record m with
         | some r => u8 m ++ u8 r.body.kindCode ++ u8 r.body.stateCode ++ u16 r.text.length ++
           match r.body with
           | .outbound _ => []
           | .inbound i => emitFlag i.read ++ [i.addressee.letter]
           | .bulletin b => [b.key.subject]
         | none => []
       exec (.list p n) s = .next (s.respond p .ok
         (u8 (min 32 used.length) ++ ((used.take 32).map entry).flatten ++ emitFlag (decide (32 < used.length)) ++
           u8 (s.store.slots.countP (·.isNone)) ++ u16 s.store.free.length ++ emitFlag s.store.low)))) ∧
  ((∀ r : Role, Tag.hred.permits r = true) ∧
   ∀ (s : State) (p : Port) (n mode : Nat) (hold : Bool), s.atRest → s.running = true → (s.port p).state = .ready →
     let ok := 1 ≤ n ∧ n ≤ 999 ∧ mode ≤ 1
     let found := if mode = 0 then s.log.hauls.find? (fun h => decide (h.number = n))
       else s.log.hauls.find? (fun h => decide (n ≤ h.number))
     (¬ ok → exec (.hred p n mode hold) s = .next (s.respond p .badParam [])) ∧
     (ok → found = none → exec (.hred p n mode hold) s = .next (s.respond p .noRecord [])) ∧
     ∀ h, ok → found = some h →
       let fields := u16 h.number ++ u8 h.state.code ++ emitFlag h.cor ++ emitStamp h.first ++ emitStamp h.last ++
         emitHaulPosition h.pos ++ [h.gear] ++ emitList (h.species.map fun q => emitText q.1 ++ u32 q.2) ++
         emitOpt u16 h.report ++ [portLetter h.origin]
       let more := s.log.hauls.any fun x => decide (h.number < x.number)
       let u : State := if hold then s.setPort p { s.port p with hold := some ⟨.haul h.number, false⟩ } else s
       exec (.hred p n mode hold) s = .next (u.respond p .ok (fields ++ emitFlag more))) ∧
  ((∀ r : Role, Tag.qlst.permits r = true) ∧
   ∀ (s : State) (p : Port) (n : Nat), s.atRest → s.running = true → (s.port p).state = .ready →
     (n = 0 ∨ 48 < n → exec (.qlst p n) s = .next (s.respond p .badParam [])) ∧
     (1 ≤ n → n ≤ 48 →
       let entry : Nat → List Byte := fun m => match s.outbound m with
         | some o => u8 m ++ u8 o.state.code ++ u8 o.cls.code ++ emitText o.dest ++ emitOpt u16 o.msg ++ u16 o.resume ++
             u16 (9 + (decimal o.text.length).length + o.text.length) ++ u8 o.attempts ++
             emitOpt u16 (o.retry.map fun since => 900 - (s.time.elapsed - since).toNat) ++
             (if o.hauls = [] then [0#8]
              else 1#8 :: u16 (((s.log.reports.find? fun x => decide (x.slot = m)).map (·.report)).getD 0))
         | none => u8 m
       ∃ k, exec (.qlst p n) s = .next (s.respond p .ok
           (u8 k ++ (((s.queue.entries.drop (n - 1)).take k).map entry).flatten ++ u8 s.queue.entries.length ++
             u8 (s.queue.entries.filter s.due).length ++ emitFlag s.queue.request.isSome)) ∧
         k ≤ 12 ∧ k ≤ s.queue.entries.length - (n - 1) ∧
         (((s.queue.entries.drop (n - 1)).take k).map entry).flatten.length ≤ 242 ∧
         (k < min 12 (s.queue.entries.length - (n - 1)) →
           242 < (((s.queue.entries.drop (n - 1)).take (k + 1)).map entry).flatten.length))) ∧
  (∀ (s : State) (p : Port), s.atRest → s.running = true → (s.port p).state = .ready →
     (∀ r : Role, Tag.skrd.permits r = true ∧ Tag.hlst.permits r = true ∧ Tag.stat.permits r = true) ∧
     (∀ i hold, 15 < i → exec (.skrd p i hold) s = .next (s.respond p .badParam [])) ∧
     (∀ i hold, i ≤ 15 →
       let w := s.window i
       let u : State := if hold then s.setPort p { s.port p with hold := some ⟨.window i, false⟩ } else s
       let reading : Int → List Byte := fun x => emitReading (readingAt x)
       let fields := emitFlag w.enabled ++ u8 w.channel ++ u16 w.start ++ u8 w.duration ++ u8 w.every ++ emitFlag w.mandatory ++
         emitBytes w.subjects ++ emitList (w.areas.map u8) ++ u8 w.state.code ++ u8 w.missed ++
         emitOpt reading (w.span.map (·.1)) ++ emitOpt reading (w.span.map (·.2))
       exec (.skrd p i hold) s = .next (u.respond p .ok (fields ++ emitOpt reading (w.nextStart s.time.state s.clock))) ∧
       (w.enabled = false ∨ s.time.state = .unset → w.nextStart s.time.state s.clock = none) ∧
       let margin : Int := if s.time.state = .holdover then 120 else 0
       let starts : Int → Prop := fun x => s.clock < x ∧
         (x + margin - (w.start / 100 * 3600 + w.start % 100 * 60 : Nat)) % (3600 * (w.every : Int)) = 0
       (w.enabled = true → s.time.state ≠ .unset → 0 < w.every →
         ∃ x, w.nextStart s.time.state s.clock = some x ∧ starts x ∧ ∀ y, starts y → x ≤ y)) ∧
     (∀ n, n = 0 ∨ 8 < n → exec (.hlst p n) s = .next (s.respond p .badParam [])) ∧
     (∀ n, 1 ≤ n → n ≤ 8 →
       let heardEntry : Heard → List Byte := fun h => emitText h.vessel ++ u8 h.number ++
         (match h.relay with
           | some coast => 1#8 :: emitText coast
           | none => [0#8]) ++
         u8 h.state.code ++ emitOpt (fun x => [x]) h.nature ++ emitOpt emitText h.pos ++ emitOpt emitText h.fix ++
         emitStamp h.first ++ emitStamp h.last ++ u8 h.times ++ emitFlag h.acked
       let unread := (s.heard.filter fun h => !h.acked).length
       ∃ k, exec (.hlst p n) s = .next (s.respond p .ok
           (u8 k ++ (((s.heard.drop (n - 1)).take k).map heardEntry).flatten ++ u8 s.heard.length ++ u8 unread ++
             u16 s.heardCounts.overflow)) ∧
         k ≤ 4 ∧ k ≤ s.heard.length - (n - 1) ∧ (((s.heard.drop (n - 1)).take k).map heardEntry).flatten.length ≤ 241 ∧
         (k < min 4 (s.heard.length - (n - 1)) →
           241 < (((s.heard.drop (n - 1)).take (k + 1)).map heardEntry).flatten.length)) ∧
     (∀ n, 9 < n → exec (.stat p n) s = .next (s.respond p .badParam [])) ∧
     let timeLine := emitReading s.time.reading ++ u8 s.time.state.code ++ u8 s.time.good ++ u8 s.time.bad
     let receiveLine := u8 s.watch.state.code ++ emitOpt u8 s.watch.entry ++ emitFlag s.watch.blanked ++
       emitFlag s.trx.tracker.locked ++ emitFlag s.watchPath.tracker.locked ++ u8 s.scanner.state.code ++
       emitOpt u8 s.scanner.current ++ u8 s.trx.tracker.longRuns ++ u8 s.watchPath.tracker.longRuns ++
       u8 (s.channels.filter (·.poor)).length
     let sinceRequest : Nat → List Byte := fun t =>
       u32 (t / 1000) ++ u16 (t % 1000) ++ u16 (1500 - (s.nowMs - t))
     let grant : Grant → List Byte := fun g => u8 g.holder.code ++ emitOpt u8 g.channel ++ u8 g.phase.code ++
       emitFlag g.request.isSome ++ emitOpt sinceRequest g.request
     let waiting := ([.distress, .bulletinMandatory, .link, .tune, .bulletinOrdinary, .scan] : List Claimant).filter
       fun c => decide (c ∈ s.arb.waiting)
     let fault : FaultEntry → List Byte := fun e => u8 e.kind.code ++ emitStamp e.time ++
       emitOpt (fun (c : Claimant) => u8 c.code) e.holder ++ emitOpt u8 e.channel
     let arbiterLine := u8 s.arb.state.code ++ emitOpt grant s.arb.grant ++
       emitList (waiting.map fun (c : Claimant) => u8 c.code) ++
       emitOpt (fun (x : TuneClaim) => u8 x.entry ++ u8 x.duration) s.arb.tune ++ u8 s.monitor.code ++
       (u8 s.fault.state.code ++ emitOpt fault s.fault.first ++ emitOpt fault s.fault.second ++ u8 s.fault.count)
     let storeLine := u16 s.store.evicted ++ u16 s.store.expired ++ u16 s.store.deleted ++ emitFlag s.store.low ++
       u8 (s.store.slots.countP (·.isNone)) ++ u16 s.store.free.length
     let queueLine := u16 s.inbound.discarded ++ u8 s.inbound.mode.code ++ emitOpt u8 s.inbound.current
     let l := s.link
     let owed : Nat × Bool → List Byte := fun x => u16 x.1 ++ [if x.2 then 0x51#8 else 0x4E#8]
     let carried : Option Outbound := l.current.bind s.outbound
     let linkLine := u8 l.state.code ++ emitOpt emitText l.station ++ emitOpt u8 l.channel ++ u8 l.index ++ u8 l.callTry ++
       u8 l.sendNext ++ u8 l.recvNext ++ u8 l.outstanding.length ++ emitOpt u8 l.current ++
       emitOpt u16 (carried.map (·.resume)) ++ u8 l.silent ++ emitList (l.owed.map owed) ++ emitList (l.setAside.map u8)
     let b := s.bull
     let part : List Byte := match s.store.part, b.recv with
       | some x, some (.open_ expected taken) => 1#8 :: (emitText x.key.office ++ [x.key.subject] ++ u8 x.key.area ++
           u8 x.key.day ++ u8 x.key.hour ++ u8 x.number ++ u8 expected ++ u8 taken ++ u16 x.damaged)
       | _, _ => [0#8]
     let live := (List.range s.windows.length).filter fun i => decide ((s.window i).state ≠ .idle)
     let stage : List Byte := match b.claim with
       | some i => [1#8, if s.holder = some (s.window i).claimant then 1#8 else 0#8]
       | none => [0#8]
     let reception : List Byte := match b.recv with
       | some .hunt => [1#8, 0#8]
       | some (.open_ _ _) => [1#8, 1#8]
       | none => [0#8]
     let bulletinLine := u16 b.stored ++ u16 b.duplicate ++ u16 b.filtered ++ u16 b.inferior ++ u16 b.dropped ++ u16 b.empty ++
       u16 b.overlong ++ stage ++ emitOpt u8 b.claim ++ reception ++ part ++
       emitList (live.map fun i => u8 i ++ u8 (s.window i).state.code)
     let o := s.own
     let action : PendingAction → List Byte := fun x => match x with
       | .end_ => [0#8]
       | .cycle .alert => [1#8]
       | .cycle .test => [2#8]
       | .cycle .cancel => [3#8]
     let cycle : Cycle → List Byte := fun c => u8 c.kind.code ++ emitList (c.channels.map u8) ++ u8 c.pos ++ u8 c.phase.code ++
       emitOpt action c.action
     let distressLine := u8 o.state.code ++ u8 o.number ++ [o.nature] ++ u8 o.cycles ++ emitFlag o.noChannel ++
       emitOpt emitFlag o.ret ++ emitOpt emitText o.ackCoast ++ emitOpt emitText o.testCoast ++ emitOpt cycle s.cycle ++
       emitFlag s.silence.running ++ emitOpt emitText s.silence.coast ++
       (if s.silence.running then 1#8 :: u16 (900 - (s.time.elapsed - s.silence.since).toNat) else [0#8]) ++
       u8 s.heard.length ++ u16 s.heardCounts.malformed ++ u16 s.heardCounts.tests ++ u16 s.heardCounts.overflow
     let inState : HaulState → List Byte := fun x => u8 (s.log.hauls.filter fun h => decide (h.state = x)).length
     let haulLogLine := inState .unreported ++ inState .reporting ++ inState .reported ++ u8 s.log.reports.length ++
       emitOpt u16 s.log.next
     let flags : CauseFlags → List Byte := fun x => emitFlag x.active ++ emitFlag x.silenced
     let alarmLine := flags s.alarm.distressHeard ++ flags s.alarm.ownAlert ++ flags s.alarm.fault ++ flags s.alarm.warning ++
       emitOpt (fun (c : Cause) => u8 c.code) s.alarm.running ++ emitOpt (fun (c : Cause) => u8 c.code) s.alarm.next
     ∀ n line, [timeLine, receiveLine, arbiterLine, storeLine, queueLine, linkLine, bulletinLine, distressLine, haulLogLine,
         alarmLine][n]? = some line →
       let hold : List Byte := match (s.port p).hold with
         | some ⟨.haul m, lost⟩ => [1#8] ++ u8 0 ++ u16 m ++ emitFlag lost
         | some ⟨.channel m, lost⟩ => [1#8] ++ u8 1 ++ u8 m ++ emitFlag lost
         | some ⟨.window m, lost⟩ => [1#8] ++ u8 2 ++ u8 m ++ emitFlag lost
         | none => [0#8]
       exec (.stat p n) s = .next (s.respond p .ok (u8 (s.port p).role.code ++ hold ++ [portLetter p] ++ line))) ∧
  ([OutState.draft, .queued, .sending, .delivered, .failed].map (·.code) = [0, 1, 2, 3, 4] ∧
   [InState.receiving, .complete, .incomplete].map (·.code) = [0, 1, 2] ∧
   [MsgClass.urgent, .catch_, .routine].map (·.code) = [0, 1, 2] ∧
   [FailReason.busy, .noAnswer, .linkLost, .notHeldLimit].map (·.code) = [0, 1, 2, 3] ∧
   [TimeState.unset, .holdover, .locked].map (·.code) = [0, 1, 2] ∧
   [HaulState.unreported, .reporting, .reported].map (·.code) = [0, 1, 2] ∧
   [WindowState.idle, .due, .active].map (·.code) = [0, 1, 2] ∧
   [HeardState.active, .acknowledged, .cancelled].map (·.code) = [0, 1, 2] ∧
   [Role.none, .bridge, .radio, .catch_].map (·.code) = [0, 1, 2, 3] ∧
   [WatchState.idle, .settling, .dwelling, .held].map (·.code) = [0, 1, 2, 3] ∧
   [ScanState.idle, .claiming, .dwelling].map (·.code) = [0, 1, 2] ∧
   [ArbState.free, .granted, .releasing].map (·.code) = [0, 1, 2] ∧
   [Claimant.distress, .bulletinMandatory, .link, .tune, .bulletinOrdinary, .scan].map (·.code) = [0, 1, 2, 3, 4, 5] ∧
   [Phase.rx, .tx, .settling].map (·.code) = [0, 1, 2] ∧
   [KeyState.quiet, .rising, .keyed, .falling, .stuck].map (·.code) = [0, 1, 2, 3, 4] ∧
   [KeyFaultKind.noResponse, .stuck].map (·.code) = [0, 1] ∧ [FaultState.none, .pending, .lockout].map (·.code) = [0, 1, 2] ∧
   [InMode.header, .body, .raw].map (·.code) = [0, 1, 2] ∧
   [LinkState.idle, .waitGrant, .settling, .calling, .sendBurst, .awaitReply, .clearing].map (·.code) =
     [0, 1, 2, 3, 4, 5, 6] ∧
   [AlertState.none, .arming, .testing, .active, .acknowledged, .cancelPending, .cancelling].map (·.code) =
     [0, 1, 2, 3, 4, 5, 6] ∧
   [CycleKind.alert, .test, .cancel].map (·.code) = [0, 1, 2] ∧
   [CyclePhase.waitGrant, .settling, .sending].map (·.code) = [0, 1, 2] ∧
   [Cause.distressHeard, .ownAlert, .fault, .warning].map (·.code) = [0, 1, 2, 3] ∧
   [Addressee.bridge, .radio, .catch_, .all].map (·.letter) = [0x42#8, 0x52#8, 0x43#8, 0x41#8] ∧
   (∀ o, (Body.outbound o).kindCode = 0 ∧ (Body.outbound o).stateCode = o.state.code) ∧
   (∀ i, (Body.inbound i).kindCode = 1 ∧ (Body.inbound i).stateCode = i.state.code) ∧
   ∀ x : Bulletin, (Body.bulletin x).kindCode = 2 ∧
     (Body.bulletin x).stateCode = if ∀ k < x.count, ∃ y ∈ x.parts, y.number = k + 1 then 0 else 1) ∧
  (∀ n : Nat, u8 n = [BitVec.ofNat 8 n] ∧ u16 n = [BitVec.ofNat 8 (n / 256), BitVec.ofNat 8 n] ∧
    u32 n = u16 (n / 65536) ++ u16 (n % 65536)) ∧
  (∀ i : Int, i8 i = [BitVec.ofInt 8 i] ∧ i32 i = u32 (i % 4294967296).toNat) ∧
  emitFlag false = [0x00#8] ∧ emitFlag true = [0x01#8] ∧ (∀ t : Text, emitText t = BitVec.ofNat 8 t.length :: t) ∧
  (∀ r : Reading, emitReading r = u16 r.year ++ u8 r.month ++ u8 r.day ++ u8 r.hour ++ u8 r.minute ++ u8 r.second) ∧
  (∀ t : Stamp, emitStamp t = emitReading t.reading ++ u8 t.state.code) ∧
  (∀ f : Nat → List Byte, emitOpt f none = [0x00#8] ∧ ∀ n, emitOpt f (some n) = [0x01#8] ++ f n) ∧
  (∀ l : List (List Byte), emitList l = BitVec.ofNat 8 l.length :: l.flatten) ∧ [Port.a, .b, .c].map portLetter = [0x41, 0x42, 0x43]

/-! ## Console commands on the schedule and the own alert (chapters 9 and 10) -/

/-- R146, R144, R147, R151: SKWR. BAD_PARAM, the hold test, IN_USE for an ACTIVE window; then the window takes the
fields with a missed count of 0, the claim for it is withdrawn, its claimant leaving the waiting set or, where it holds
the grant, releasing it (R155 where a part is open), the other ports' holds on it are lost, and it goes DUE at once in a
span that serves it, 2 minutes wider at each end in HOLDOVER, else IDLE. `u` is the state before the engine's review of
its claim and the hand-offs; the response carries the window as it then stands. Store, link and alarm stay where no part
is open. -/
def Obligations.SkwrRewritesAWindow : Prop :=
  ∀ (s : State) (p : Port) (i : Nat) (f : WindowFields), s.admits p .skwr → s.windows.length = 16 →
    let entry := s.channel f.channel
    let ok := i ≤ 15 ∧ f.channel ≤ 23 ∧ f.start / 100 ≤ 23 ∧ f.start % 100 ≤ 59 ∧ 1 ≤ f.duration ∧ f.duration ≤ 60 ∧
      f.every ∈ [1, 2, 3, 4, 6, 8, 12, 24] ∧ (∀ c ∈ f.subjects, foldChar c ∈ [0x46#8, 0x49#8, 0x4E#8]) ∧
      1 ≤ f.areas.length ∧ f.areas.length ≤ 4 ∧ (∀ a ∈ f.areas, 1 ≤ a ∧ a ≤ 40) ∧ f.areas.Nodup ∧
      (f.enabled = true → entry.valid = true ∧ entry.role = .broadcast)
    let held := (s.port p).hold
    (¬ ok → exec (.skwr p i f) s = .next (s.respond p .badParam [])) ∧
    (ok → (∀ lost, held ≠ some ⟨.window i, lost⟩) → exec (.skwr p i f) s =
      .next ((s.setPort p { s.port p with hold := none }).respond p .noHold [])) ∧
    (ok → held = some ⟨.window i, true⟩ → exec (.skwr p i f) s =
      .next ((s.setPort p { s.port p with hold := none }).respond p .holdLost [])) ∧
    (ok → held = some ⟨.window i, false⟩ → (s.window i).state = .active →
      exec (.skwr p i f) s = .next (s.respond p .inUse [])) ∧
    (ok → held = some ⟨.window i, false⟩ → (s.window i).state ≠ .active →
      let margin : Int := if s.time.state = .holdover then 120 else 0
      let startSecond : Int := (f.start / 100 * 3600 + f.start % 100 * 60 : Nat)
      let ends : Int → Int := fun n => n + f.duration * 60 + margin
      let serves : Int → Prop := fun n => (n - startSecond) % (f.every * 3600 : Nat) = 0 ∧
        n - margin ≤ instant s.time.reading ∧ instant s.time.reading + 60 ≤ ends n
      let idle : Window :=
        { enabled := f.enabled, channel := f.channel, start := f.start, duration := f.duration, every := f.every,
          mandatory := f.mandatory, areas := f.areas, state := .idle, missed := 0, span := none,
          subjects := [0x46#8, 0x49#8, 0x4E#8].filter fun c => decide (c ∈ f.subjects.map foldChar) }
      ∃ u : State,
        (let t := u.bullReview.settle
         exec (.skwr p i f) s = .next (t.respond p .ok (emitWindow (t.window i)))) ∧
        (f.enabled = false ∨ s.time.state = .unset ∨ (∀ n, ¬ serves n) → u.window i = idle) ∧
        (f.enabled = true → s.time.state ≠ .unset → (∃ n, serves n) →
          ∃ n, serves n ∧ u.window i = { idle with state := .due, span := some (n - margin, ends n) }) ∧
        (∀ j, j ≠ i → u.window j = s.window j) ∧ (s.bull.claim = some i → u.bull.claim = none) ∧
        (s.bull.claim ≠ some i → u = { s with windows := u.windows, ports := u.ports }) ∧
        (s.bull.claim = some i → s.occurrenceOver u (s.window i).claimant ∧ u.link = s.link ∧
          (s.holder ≠ some (s.window i).claimant → u = { s with
            windows := u.windows, ports := u.ports, store := u.store, bull := u.bull, alarm := u.alarm, arb := u.arb }) ∧
          (s.bull.recv = none → u.store = s.store ∧ u.alarm = s.alarm ∧ u.bull = { s.bull with claim := none })) ∧
        (s.bull.claim ≠ some i ∨ s.bull.recv = none → ∀ q, (u.port q).noticed = (s.port q).noticed) ∧ (u.port p).hold = none ∧
        (∀ q, q ≠ p → ∀ lost, (s.port q).hold = some ⟨.window i, lost⟩ → (u.port q).hold = some ⟨.window i, true⟩) ∧
        (∀ q, q ≠ p → (∀ lost, (s.port q).hold ≠ some ⟨.window i, lost⟩) → (u.port q).hold = (s.port q).hold) ∧
        (∀ q, (u.port q).quiet = { (s.port q).quiet with hold := (u.port q).hold }) ∧
        u.steady = { s.steady with windows := u.windows.map Window.given, a := (u.port .a).quiet, b := (u.port .b).quiet,
                                   c := (u.port .c).quiet })

/-- R165, R166, R161, R167: DALR and DTST. Their tests in their order. DALR in ACTIVE changes the nature alone; in NONE,
ARMING or TESTING a new alert begins, with the next number, the nature given and an alert cycle called for. DTST makes
the state TESTING, forgets an earlier reply and begins a test cycle on the first DISTRESS entry. Leaving NONE closes the
gate. `u` is the state before the hand-offs. -/
def Obligations.AlertsAndTestsBegin : Prop :=
  ∀ (s : State) (p : Port),
    (∀ c : Byte, s.admits p .dalr →
      let nature := foldChar c
      let ok := nature ∈ [0x46#8, 0x53#8, 0x47#8, 0x43#8, 0x4C#8, 0x44#8, 0x50#8, 0x55#8]
      let startable := s.own.state = .none ∨ s.own.state = .arming ∨ s.own.state = .testing
      let number := if s.own.number = 99 then 1 else s.own.number + 1
      (¬ ok → exec (.dalr p c) s = .next (s.respond p .badParam [])) ∧
      (ok → ¬ startable → s.own.state ≠ .active → exec (.dalr p c) s = .next (s.respond p .wrongState [])) ∧
      (ok → startable → s.ident.vessel = [] → exec (.dalr p c) s = .next (s.respond p .wrongState [])) ∧
      (ok → s.own.state = .active → exec (.dalr p c) s =
        .next ({ s with own := { s.own with nature := nature } }.respond p .ok (u8 3 ++ u8 s.own.number ++ [nature]))) ∧
      (ok → startable → s.ident.vessel ≠ [] → ∃ u : State,
        exec (.dalr p c) s = .next (u.settle.respond p .ok (u8 3 ++ u8 number ++ [nature])) ∧
        u.own.state = .active ∧ u.own.number = number ∧ u.own.nature = nature ∧ u.own.ackCoast = none ∧
        u.own.testWait = false ∧ u.own.repeatOn = (s.own.repeatOn || decide (∀ d, s.cycle = some d → d.phase ≠ .sending)) ∧
        u.alarm.ownAlert.active = true ∧ (∀ q, (u.port q).noticed &&& 0x0010#16 ≠ 0) ∧
        (s.own.state = .none → Signal.gateClosed ∈ u.signals) ∧
        (s.cycle = none → s.watchList ≠ [] → u.own.cycles = 1 ∧ u.own.noChannel = false ∧ u.hasClaim .distress = true ∧
          ∃ d, u.cycle = some d ∧ d.kind = .alert ∧ d.channels = s.watchList.take 4 ∧ d.pos = 0 ∧ d.action = none) ∧
        (s.cycle = none → s.watchList = [] → u.own.cycles = 0 ∧ u.own.noChannel = true ∧ u.cycle = none ∧
          ∀ q, (u.port q).noticed &&& 0x0004#16 ≠ 0) ∧
        (∀ d, s.cycle = some d → d.phase = .sending → d.action = none →
          u.cycle = some { d with action := some (.cycle .alert) }) ∧
        u.steady = s.steady)) ∧
    (s.admits p .dtst →
      (s.own.state ≠ .none → exec (.dtst p) s = .next (s.respond p .wrongState [])) ∧
      (s.own.state = .none → s.ident.vessel = [] → exec (.dtst p) s = .next (s.respond p .wrongState [])) ∧
      (s.own.state = .none → s.ident.vessel ≠ [] → s.watchList = [] →
        exec (.dtst p) s = .next (s.respond p .noChannel [])) ∧
      ∀ i rest, s.own.state = .none → s.ident.vessel ≠ [] → s.watchList = i :: rest → ∃ u : State,
        exec (.dtst p) s = .next (u.settle.respond p .ok (u8 i)) ∧ u.own.state = .testing ∧ u.own.testCoast = none ∧
        u.own.testWait = false ∧ (∀ q, (u.port q).noticed &&& 0x0010#16 ≠ 0) ∧ Signal.gateClosed ∈ u.signals ∧
        (s.cycle = none → u.own.noChannel = false ∧ u.hasClaim .distress = true ∧
          ∃ d, u.cycle = some d ∧ d.kind = .test ∧ d.channels = [i] ∧ d.pos = 0 ∧ d.action = none) ∧
        u.steady = s.steady)

/-- R171 to R173, R161: DCAN, DCNF and DCLS. DCAN in ACTIVE or ACKNOWLEDGED makes the state CANCEL_PENDING with its
return state and requester. DCNF from another port makes it CANCELLING, stops the repeat interval and calls for a cancel
cycle. DCLS in ACKNOWLEDGED makes it NONE, and the link engine tests its conditions. Each raises OWN_ALERT; elsewhere
each is refused with WRONG_STATE. `u` is the state before the hand-offs. -/
def Obligations.AlertsAreCancelledAndClosed : Prop :=
  ∀ (s : State) (p : Port),
    (s.admits p .dcan →
      let asked : Bool → State := fun ack =>
        { s with own := { s.own with state := .cancelPending, ret := some ack, requester := some p } }.raiseAll .ownAlert
      (s.own.state ≠ .active → s.own.state ≠ .acknowledged → exec (.dcan p) s = .next (s.respond p .wrongState [])) ∧
      (s.own.state = .active → exec (.dcan p) s =
        .next (((asked false).alarmActive .ownAlert false).respond p .ok (u8 s.own.number))) ∧
      (s.own.state = .acknowledged → exec (.dcan p) s = .next ((asked true).respond p .ok (u8 s.own.number)))) ∧
    (s.admits p .dcnf →
      (s.own.state ≠ .cancelPending ∨ s.own.requester = some p →
        exec (.dcnf p) s = .next (s.respond p .wrongState [])) ∧
      (s.own.state = .cancelPending → s.own.requester ≠ some p → ∃ u : State,
        exec (.dcnf p) s = .next (u.settle.respond p .ok []) ∧ u.own.state = .cancelling ∧ u.own.ret = none ∧
        u.own.requester = none ∧ u.own.repeatOn = false ∧ u.own.number = s.own.number ∧
        (∀ q, (u.port q).noticed &&& 0x0010#16 ≠ 0) ∧
        (s.cycle = none → s.watchList ≠ [] → u.hasClaim .distress = true ∧
          ∃ d, u.cycle = some d ∧ d.kind = .cancel ∧ d.channels = s.watchList.take 4 ∧ d.pos = 0 ∧ d.action = none) ∧
        (s.cycle = none → s.watchList = [] → u.cycle = none ∧ u.own.retryOn = true ∧ u.own.noChannel = true) ∧
        (∀ d, s.cycle = some d → d.phase = .sending → u.cycle = some { d with action := some (.cycle .cancel) }) ∧
        u.steady = s.steady)) ∧
    (s.admits p .dcls →
      (s.own.state ≠ .acknowledged → exec (.dcls p) s = .next (s.respond p .wrongState [])) ∧
      (s.own.state = .acknowledged →
        let closed : State := { s with own := { s.own with state := .none, repeatOn := false } }
        exec (.dcls p) s = .next (((closed.raiseAll .ownAlert).post .linkTest).settle.respond p .ok
          (match s.own.ackCoast with
           | some coast => 1#8 :: emitText coast
           | none => [0#8]))))

/-- R176: HACK. BAD_PARAM for a code or a number not of R162's form, NO_RECORD; then the entry's flag is set, whether or
not it was, and when no entry is left without it the alarm cause DISTRESS_HEARD becomes inactive. The response carries
the entry. Nothing else changes. R46, R162, R174: every frame record of the watch path is taken, and a GOOD one then
ends a watch hold. R175: A, Y, X and K of another vessel create the entry of their key or update it; a place is made in
a full list, or the overflow counted; DISTRESS_HEARD and its alarm. R170, R166: K for the own alert is an acknowledgment
or a test reply. R174: other frames naming the own code are discarded, a T among them (log 45), tests of others counted,
and frames of no form (log 36; a fix time is any four digits: log 25) counted as malformed. R177: S starts the silence
and closes the gate, G of the same coast ends it. -/
def Obligations.HackAcknowledges : Prop :=
  (∀ (s : State) (p : Port) (vessel : Text) (n : Nat), s.admits p .hack →
     let code := foldText vessel
     let ok := (code = [0x3F#8] ∨
         1 ≤ vessel.length ∧ vessel.length ≤ 7 ∧ ∀ c ∈ code, isUpper c = true ∨ isDigit c = true) ∧ 1 ≤ n ∧ n ≤ 99
     let named : Heard → Bool := fun h => decide (h.vessel = code) && decide (h.number = n)
     let u : State := { s with heard := s.heard.map fun (h : Heard) => if named h then { h with acked := true } else h }
     (¬ ok → exec (.hack p vessel n) s = .next (s.respond p .badParam [])) ∧
     (ok → (∀ h ∈ s.heard, named h = false) → exec (.hack p vessel n) s = .next (s.respond p .noRecord [])) ∧
     ∀ h, ok → s.heard.find? named = some h →
       ((∀ x ∈ u.heard, x.acked = true) → exec (.hack p vessel n) s =
         .next ((u.alarmActive .distressHeard false).respond p .ok (emitHeard { h with acked := true }))) ∧
       ((∃ x ∈ u.heard, x.acked = false) → exec (.hack p vessel n) s =
         .next (u.respond p .ok (emitHeard { h with acked := true })))) ∧
  (∀ (s : State) (h : Option Claimant) (r : FrameRec),
     let u := s.distressFrame r
     let ownCode : Text := if s.ident.vessel = [] then [0x3F#8] else s.ident.vessel
     let isCode : Text → Prop := fun v =>
       v = [0x3F#8] ∨ 1 ≤ v.length ∧ v.length ≤ 7 ∧ ∀ c ∈ v, isUpper c = true ∨ isDigit c = true
     let isCoastCode : Text → Prop := fun c => c.length = 4 ∧ ∀ x ∈ c, isUpper x = true
     let isFix : Option (Text × Text) → Prop := fun w => ∀ p f, w = some (p, f) →
       f.length = 4 ∧ (∀ c ∈ f, isDigit c = true) ∧ ∃ lat lon : Text, ∃ ns ew : Byte,
         p = lat ++ [ns, 0x2F#8] ++ lon ++ [ew] ∧ lat.length = 5 ∧ lon.length = 6 ∧
         (∀ c ∈ lat ++ lon, isDigit c = true) ∧ (ns = 0x4E#8 ∨ ns = 0x53#8) ∧ (ew = 0x45#8 ∨ ew = 0x57#8)
     let isFive : Text → Nat → Byte → Option (Text × Text) → Prop := fun v n nature w => isCode v ∧ n ≤ 99 ∧
       nature ∈ [0x46#8, 0x53#8, 0x47#8, 0x43#8, 0x4C#8, 0x44#8, 0x50#8, 0x55#8] ∧ isFix w
     let five : Text → Nat → Byte → Option (Text × Text) → List Text := fun v n nature w =>
       [v, digits 2 n, [nature]] ++ (match w with
         | some (p, f) => [p, f]
         | none => [[0x3F#8], [0x3F#8]])
     let kindIs : Char → Prop := fun k => r.kind = some (letterSym k)
     let entry : Text → Nat → Option Text → HeardState → Option Byte → Option (Text × Text) → Heard :=
       fun v n relay st nature w =>
         ⟨v, n, relay, st, nature, w.map (·.1), w.map (·.2), r.received, r.received, 1, false⟩
     let brought : Byte → Option (Text × Text) → Heard → Heard := fun nature w x =>
       { x with nature := some nature, pos := (w.map (·.1)).or x.pos, fix := (w.map (·.2)).or x.fix }
     let raised : State → State := fun t => t.raiseAll .distressHeard
     let created : Heard → List Heard → State := fun made l =>
       (raised { s with heard := l ++ [made] }).alarmEvent .distressHeard
     let spent : Heard → Bool := fun x => x.acked && decide (x.state ≠ .active)
     let takes : Heard → (Heard → Heard) → Prop := fun made update =>
       let named : Heard → Bool := fun x => decide (x.vessel = made.vessel) && decide (x.number = made.number)
       (∀ x, s.heard.find? named = some x →
         let y := update { x with last := r.received, times := min 255 (x.times + 1) }
         let t : State := { s with heard := s.heard.map fun z => if z = x then y else z }
         (y.state = x.state → u = t) ∧ (y.state ≠ x.state → u = raised t)) ∧
       ((∀ x ∈ s.heard, named x = false) →
         (s.heard.length < 8 → u = created made s.heard) ∧
         (8 ≤ s.heard.length →
           (∀ l x l', s.heard = l ++ x :: l' → spent x = true → (∀ y ∈ l, spent y = false) → u = created made (l ++ l')) ∧
           ((∀ y ∈ s.heard, spent y = false) → ∀ l x l', s.heard = l ++ x :: l' → x.acked = true →
             (∀ y ∈ l, y.acked = false) → u = created made (l ++ l')) ∧
           ((∀ y ∈ s.heard, y.acked = false) → u =
             (raised { s with heardCounts := { s.heardCounts with
               overflow := min 65535 (s.heardCounts.overflow + 1) } }).alarmEvent .distressHeard)))
     let tested : State := { s with heardCounts := { s.heardCounts with tests := min 65535 (s.heardCounts.tests + 1) } }
     let malformed : State :=
       { s with heardCounts := { s.heardCounts with malformed := min 65535 (s.heardCounts.malformed + 1) } }
     s.handle (.frame .watch h r) = (if r.verdict = .good ∧ s.watch.state = .held then u.watchMoveOn else u) ∧
     (r.verdict ≠ .good → u = s) ∧
     (r.verdict = .good →
       (∀ v n nature w, isFive v n nature w →
         (r.text = spaced (five v n nature w) →
           (kindIs 'A' ∨ kindIs 'X' → 1 ≤ n → v = ownCode → u = s) ∧
           (kindIs 'A' → 1 ≤ n → v ≠ ownCode →
             takes (entry v n none .active (some nature) w) (fun x => { brought nature w x with relay := none })) ∧
           (kindIs 'X' → 1 ≤ n → v ≠ ownCode →
             takes (entry v n none .cancelled (some nature) w) (fun x => { brought nature w x with state := .cancelled })) ∧
           (kindIs 'T' → n = 0 → u = if v = ownCode then s else tested) ∧
           (kindIs 'T' → 1 ≤ n → u = malformed) ∧ (kindIs 'A' ∨ kindIs 'X' → n = 0 → u = malformed)) ∧
         (∀ coast, isCoastCode coast → kindIs 'Y' → r.text = spaced (coast :: five v n nature w) →
           (n = 0 → u = malformed) ∧ (1 ≤ n → v = ownCode → u = s) ∧
           (1 ≤ n → v ≠ ownCode → takes (entry v n (some coast) .active (some nature) w) (brought nature w)))) ∧
       (∀ coast v n, isCoastCode coast → isCode v → n ≤ 99 → kindIs 'K' → r.text = spaced [coast, v, digits 2 n] →
         let acknowledged : State :=
           { s with own := { s.own with state := .acknowledged, ackCoast := some coast, repeatOn := false } }
         let pending : State := { s with own := { s.own with ret := some true, ackCoast := some coast, repeatOn := false } }
         let replied : State := { s with own := { s.own with testCoast := some coast } }
         (v ≠ ownCode → n = 0 → u = tested) ∧
         (v ≠ ownCode → 1 ≤ n → takes (entry v n (some coast) .acknowledged none none)
           (fun x => if x.state = .cancelled then x else { x with state := .acknowledged })) ∧
         (v = ownCode → n = 0 →
           u = if s.own.state = .testing ∨ s.own.testWait = true then replied.raiseAll .ownAlert else s) ∧
         (v = ownCode → 1 ≤ n → n ≠ s.own.number → u = s) ∧
         (v = ownCode → 1 ≤ n → n = s.own.number → s.own.state = .active →
           u = ((acknowledged.raiseAll .ownAlert).alarmActive .ownAlert false).stopAlertCycle) ∧
         (v = ownCode → 1 ≤ n → n = s.own.number → s.own.state = .cancelPending → s.own.ret = some false →
           u = (pending.raiseAll .ownAlert).stopAlertCycle) ∧
         (v = ownCode → 1 ≤ n → n = s.own.number → s.own.state ≠ .active →
           (s.own.state = .cancelPending → s.own.ret ≠ some false) → u = s)) ∧
       (∀ coast, isCoastCode coast → r.text = coast →
         (kindIs 'S' → u = ({ s with silence := ⟨true, some coast, s.time.elapsed⟩ }.raiseAll .silence).post .gateClosed) ∧
         (kindIs 'G' → u = if s.silence.running = true ∧ s.silence.coast = some coast then
             ({ s with silence := { s.silence with running := false } }.raiseAll .silence).post .linkTest else s)) ∧
       ((∀ k ∈ ['A', 'T', 'X', 'K', 'Y', 'S', 'G'], ¬ kindIs k) → u = malformed) ∧
       (kindIs 'A' ∨ kindIs 'T' ∨ kindIs 'X' →
         (∀ v n nature w, isFive v n nature w → r.text ≠ spaced (five v n nature w)) → u = malformed) ∧
       (kindIs 'Y' → (∀ coast v n nature w, isCoastCode coast → isFive v n nature w →
         r.text ≠ spaced (coast :: five v n nature w)) → u = malformed) ∧
       (kindIs 'K' → (∀ coast v n, isCoastCode coast → isCode v → n ≤ 99 →
         r.text ≠ spaced [coast, v, digits 2 n]) → u = malformed) ∧
       (kindIs 'S' ∨ kindIs 'G' → ¬ isCoastCode r.text → u = malformed)))

/-! ## Console commands on the port and the alarm (chapter 11) -/

/-- R186, R187, R19: NOTE gives the pending set and clears it; MASK writes the mask, refusing bits 14 and 15, and leaves
the pending set; PRST restarts the port in its role, RESTARTED pending, and answers with overrun clear and attention
set. Each changes its own port alone. -/
def Obligations.PortCommands : Prop :=
  ∀ (s : State) (p : Port),
    let c := s.port p
    (s.admits p .note → exec (.note p) s = .next ((s.setPort p { c with noticed := 0 }).respond p .ok (u16 c.noticed.toNat))) ∧
    (∀ m : BitVec 16, s.admits p .mask →
      (16384 ≤ m.toNat → exec (.mask p m) s = .next (s.respond p .badParam [])) ∧
      (m.toNat < 16384 → exec (.mask p m) s =
        .next ((s.setPort p { c with mask := m }).respond p .ok (u16 m.toNat ++ u16 c.noticed.toNat)))) ∧
    (s.admits p .prst → exec (.prst p) s = .next (s.setPort p
      { role := c.role, state := .responding, overrun := false, hold := none, noticed := 0x0001#16,
        mask := c.role.defaultMask, response := some ⟨responseFrame .ok 4 [], 0⟩ }))

/-- R189: ASIL silences every cause active at the command and makes WARNING inactive; the next cadence is recomputed,
which leaves it off; the response carries the four causes' flags. With no cause active it is accepted and changes
nothing. A new event, or a cause that becomes active, sounds again. It is permitted to BRIDGE and RADIO. -/
def Obligations.AsilSilencesTheAlarm : Prop :=
  (∀ r : Role, Tag.asil.permits r = decide (r = .bridge ∨ r = .radio)) ∧
  ∀ (s : State) (p : Port), s.admits p .asil →
    let hush : CauseFlags → CauseFlags := fun f => if f.active then { f with silenced := true } else f
    let a := s.alarm
    let alarm : Alarm := { a with distressHeard := hush a.distressHeard, ownAlert := hush a.ownAlert, fault := hush a.fault,
                                  warning := ⟨false, false⟩, next := none,
                                  onPart := if a.running = none then false else a.onPart }
    let flags : CauseFlags → List Byte := fun f => emitFlag f.active ++ emitFlag f.silenced
    exec (.asil p) s = .next ({ s with alarm := alarm }.respond p .ok
      (flags (hush a.distressHeard) ++ flags (hush a.ownAlert) ++ flags (hush a.fault) ++ [0#8, 0#8])) ∧
    ((∀ c, a.flags c = ⟨false, false⟩) → a.next = none → (a.running = none → a.onPart = false) →
      exec (.asil p) s = .next (s.respond p .ok [0#8, 0#8, 0#8, 0#8, 0#8, 0#8, 0#8, 0#8])) ∧
    ∀ t, exec (.asil p) s = .next t → ∀ c,
      (t.alarmEvent c).alarm.flags c = ⟨true, false⟩ ∧ (t.alarmEvent c).alarm.next = some c ∧
      (a.flags c = ⟨false, false⟩ → (t.alarmActive c true).alarm.flags c = ⟨true, false⟩ ∧
        (t.alarmActive c true).alarm.next = some c)

/-! ## Invariants -/

/-- The invariants below hold right after reset. -/
def Obligations.InvariantsHoldAtReset : Prop :=
  State.reset.atRest ∧ State.reset.keyOk ∧ State.reset.settingsOk ∧ State.reset.logOk

/-- R50, R55, R56, R60: every step keeps it: the key is asserted exactly while a grant is in TX with its assertion not
held back; that grant has a channel and belongs to a claimant that may transmit; symbols wait on air only then. And no
hand-off waits between two steps (log 8). -/
def Obligations.EveryStepKeepsTheKeyLine : Prop :=
  ∀ s t : State, s.atRest → s.keyOk → step s = .next t → t.atRest ∧ t.keyOk

/-- R20, R25, R27, R29 to R31, R33, R69, R144, R146: every step keeps what masters set within its ranges: the clock, the
position, the identity and its numbers, the channel entries with codes of at most four characters (log 49), the windows,
and the sizes of the tables. -/
def Obligations.EveryStepKeepsTheSettings : Prop :=
  ∀ s t : State, s.settingsOk → step s = .next t → t.settingsOk

/-- R87, R88: every step keeps haul numbers rising below the next haul number, every trip total equal to its carried
total plus the weights of the species over all hauls of the log, and every species of a haul in the table. -/
def Obligations.EveryStepKeepsTheTripTotals : Prop :=
  ∀ s t : State, s.logOk → step s = .next t → t.logOk
end

