-- ==== Sys2Proof/Laws/State.lean ====
section
/-! SUPPORT. What each small update of the state leaves: one lemma per field and update, true by rfl. -/
namespace Sys2Proof.Machine

/-! ## post -/

@[simp] theorem State.post_supply (s : State) (g : Signal) : (s.post g).supply = s.supply := rfl
@[simp] theorem State.post_pins (s : State) (g : Signal) : (s.post g).pins = s.pins := rfl
@[simp] theorem State.post_time (s : State) (g : Signal) : (s.post g).time = s.time := rfl
@[simp] theorem State.post_position (s : State) (g : Signal) : (s.post g).position = s.position := rfl
@[simp] theorem State.post_ident (s : State) (g : Signal) : (s.post g).ident = s.ident := rfl
@[simp] theorem State.post_channels (s : State) (g : Signal) : (s.post g).channels = s.channels := rfl
@[simp] theorem State.post_trx (s : State) (g : Signal) : (s.post g).trx = s.trx := rfl
@[simp] theorem State.post_watchPath (s : State) (g : Signal) : (s.post g).watchPath = s.watchPath := rfl
@[simp] theorem State.post_sampler (s : State) (g : Signal) : (s.post g).sampler = s.sampler := rfl
@[simp] theorem State.post_scanner (s : State) (g : Signal) : (s.post g).scanner = s.scanner := rfl
@[simp] theorem State.post_watch (s : State) (g : Signal) : (s.post g).watch = s.watch := rfl
@[simp] theorem State.post_arb (s : State) (g : Signal) : (s.post g).arb = s.arb := rfl
@[simp] theorem State.post_tuner (s : State) (g : Signal) : (s.post g).tuner = s.tuner := rfl
@[simp] theorem State.post_tstb (s : State) (g : Signal) : (s.post g).tstb = s.tstb := rfl
@[simp] theorem State.post_wstb (s : State) (g : Signal) : (s.post g).wstb = s.wstb := rfl
@[simp] theorem State.post_tx (s : State) (g : Signal) : (s.post g).tx = s.tx := rfl
@[simp] theorem State.post_monitor (s : State) (g : Signal) : (s.post g).monitor = s.monitor := rfl
@[simp] theorem State.post_fault (s : State) (g : Signal) : (s.post g).fault = s.fault := rfl
@[simp] theorem State.post_store (s : State) (g : Signal) : (s.post g).store = s.store := rfl
@[simp] theorem State.post_log (s : State) (g : Signal) : (s.post g).log = s.log := rfl
@[simp] theorem State.post_queue (s : State) (g : Signal) : (s.post g).queue = s.queue := rfl
@[simp] theorem State.post_inbound (s : State) (g : Signal) : (s.post g).inbound = s.inbound := rfl
@[simp] theorem State.post_link (s : State) (g : Signal) : (s.post g).link = s.link := rfl
@[simp] theorem State.post_windows (s : State) (g : Signal) : (s.post g).windows = s.windows := rfl
@[simp] theorem State.post_bull (s : State) (g : Signal) : (s.post g).bull = s.bull := rfl
@[simp] theorem State.post_own (s : State) (g : Signal) : (s.post g).own = s.own := rfl
@[simp] theorem State.post_cycle (s : State) (g : Signal) : (s.post g).cycle = s.cycle := rfl
@[simp] theorem State.post_frameBuf (s : State) (g : Signal) : (s.post g).frameBuf = s.frameBuf := rfl
@[simp] theorem State.post_heard (s : State) (g : Signal) : (s.post g).heard = s.heard := rfl
@[simp] theorem State.post_heardCounts (s : State) (g : Signal) : (s.post g).heardCounts = s.heardCounts := rfl
@[simp] theorem State.post_silence (s : State) (g : Signal) : (s.post g).silence = s.silence := rfl
@[simp] theorem State.post_ports (s : State) (g : Signal) : (s.post g).ports = s.ports := rfl
@[simp] theorem State.post_alarm (s : State) (g : Signal) : (s.post g).alarm = s.alarm := rfl
@[simp] theorem State.post_freeCount (s : State) (g : Signal) : (s.post g).freeCount = s.freeCount := rfl
@[simp] theorem State.post_pending (s : State) (g : Signal) : (s.post g).pending = s.pending := rfl

/-! ## mapPorts -/

@[simp] theorem State.mapPorts_supply (s : State) (f : Port → PortCtx → PortCtx) : (s.mapPorts f).supply = s.supply := rfl
@[simp] theorem State.mapPorts_pins (s : State) (f : Port → PortCtx → PortCtx) : (s.mapPorts f).pins = s.pins := rfl
@[simp] theorem State.mapPorts_time (s : State) (f : Port → PortCtx → PortCtx) : (s.mapPorts f).time = s.time := rfl
@[simp] theorem State.mapPorts_position (s : State) (f : Port → PortCtx → PortCtx) : (s.mapPorts f).position = s.position := rfl
@[simp] theorem State.mapPorts_ident (s : State) (f : Port → PortCtx → PortCtx) : (s.mapPorts f).ident = s.ident := rfl
@[simp] theorem State.mapPorts_channels (s : State) (f : Port → PortCtx → PortCtx) : (s.mapPorts f).channels = s.channels := rfl
@[simp] theorem State.mapPorts_trx (s : State) (f : Port → PortCtx → PortCtx) : (s.mapPorts f).trx = s.trx := rfl
@[simp] theorem State.mapPorts_watchPath (s : State) (f : Port → PortCtx → PortCtx) : (s.mapPorts f).watchPath = s.watchPath := rfl
@[simp] theorem State.mapPorts_sampler (s : State) (f : Port → PortCtx → PortCtx) : (s.mapPorts f).sampler = s.sampler := rfl
@[simp] theorem State.mapPorts_scanner (s : State) (f : Port → PortCtx → PortCtx) : (s.mapPorts f).scanner = s.scanner := rfl
@[simp] theorem State.mapPorts_watch (s : State) (f : Port → PortCtx → PortCtx) : (s.mapPorts f).watch = s.watch := rfl
@[simp] theorem State.mapPorts_arb (s : State) (f : Port → PortCtx → PortCtx) : (s.mapPorts f).arb = s.arb := rfl
@[simp] theorem State.mapPorts_tuner (s : State) (f : Port → PortCtx → PortCtx) : (s.mapPorts f).tuner = s.tuner := rfl
@[simp] theorem State.mapPorts_tstb (s : State) (f : Port → PortCtx → PortCtx) : (s.mapPorts f).tstb = s.tstb := rfl
@[simp] theorem State.mapPorts_wstb (s : State) (f : Port → PortCtx → PortCtx) : (s.mapPorts f).wstb = s.wstb := rfl
@[simp] theorem State.mapPorts_tx (s : State) (f : Port → PortCtx → PortCtx) : (s.mapPorts f).tx = s.tx := rfl
@[simp] theorem State.mapPorts_monitor (s : State) (f : Port → PortCtx → PortCtx) : (s.mapPorts f).monitor = s.monitor := rfl
@[simp] theorem State.mapPorts_fault (s : State) (f : Port → PortCtx → PortCtx) : (s.mapPorts f).fault = s.fault := rfl
@[simp] theorem State.mapPorts_store (s : State) (f : Port → PortCtx → PortCtx) : (s.mapPorts f).store = s.store := rfl
@[simp] theorem State.mapPorts_log (s : State) (f : Port → PortCtx → PortCtx) : (s.mapPorts f).log = s.log := rfl
@[simp] theorem State.mapPorts_queue (s : State) (f : Port → PortCtx → PortCtx) : (s.mapPorts f).queue = s.queue := rfl
@[simp] theorem State.mapPorts_inbound (s : State) (f : Port → PortCtx → PortCtx) : (s.mapPorts f).inbound = s.inbound := rfl
@[simp] theorem State.mapPorts_link (s : State) (f : Port → PortCtx → PortCtx) : (s.mapPorts f).link = s.link := rfl
@[simp] theorem State.mapPorts_windows (s : State) (f : Port → PortCtx → PortCtx) : (s.mapPorts f).windows = s.windows := rfl
@[simp] theorem State.mapPorts_bull (s : State) (f : Port → PortCtx → PortCtx) : (s.mapPorts f).bull = s.bull := rfl
@[simp] theorem State.mapPorts_own (s : State) (f : Port → PortCtx → PortCtx) : (s.mapPorts f).own = s.own := rfl
@[simp] theorem State.mapPorts_cycle (s : State) (f : Port → PortCtx → PortCtx) : (s.mapPorts f).cycle = s.cycle := rfl
@[simp] theorem State.mapPorts_frameBuf (s : State) (f : Port → PortCtx → PortCtx) : (s.mapPorts f).frameBuf = s.frameBuf := rfl
@[simp] theorem State.mapPorts_heard (s : State) (f : Port → PortCtx → PortCtx) : (s.mapPorts f).heard = s.heard := rfl
@[simp] theorem State.mapPorts_heardCounts (s : State) (f : Port → PortCtx → PortCtx) : (s.mapPorts f).heardCounts = s.heardCounts := rfl
@[simp] theorem State.mapPorts_silence (s : State) (f : Port → PortCtx → PortCtx) : (s.mapPorts f).silence = s.silence := rfl
@[simp] theorem State.mapPorts_alarm (s : State) (f : Port → PortCtx → PortCtx) : (s.mapPorts f).alarm = s.alarm := rfl
@[simp] theorem State.mapPorts_signals (s : State) (f : Port → PortCtx → PortCtx) : (s.mapPorts f).signals = s.signals := rfl
@[simp] theorem State.mapPorts_freeCount (s : State) (f : Port → PortCtx → PortCtx) : (s.mapPorts f).freeCount = s.freeCount := rfl
@[simp] theorem State.mapPorts_pending (s : State) (f : Port → PortCtx → PortCtx) : (s.mapPorts f).pending = s.pending := rfl

/-! ## raiseOn -/

@[simp] theorem State.raiseOn_supply (s : State) (n : Notice) (w : Port → Role → Bool) : (s.raiseOn n w).supply = s.supply := rfl
@[simp] theorem State.raiseOn_pins (s : State) (n : Notice) (w : Port → Role → Bool) : (s.raiseOn n w).pins = s.pins := rfl
@[simp] theorem State.raiseOn_time (s : State) (n : Notice) (w : Port → Role → Bool) : (s.raiseOn n w).time = s.time := rfl
@[simp] theorem State.raiseOn_position (s : State) (n : Notice) (w : Port → Role → Bool) : (s.raiseOn n w).position = s.position := rfl
@[simp] theorem State.raiseOn_ident (s : State) (n : Notice) (w : Port → Role → Bool) : (s.raiseOn n w).ident = s.ident := rfl
@[simp] theorem State.raiseOn_channels (s : State) (n : Notice) (w : Port → Role → Bool) : (s.raiseOn n w).channels = s.channels := rfl
@[simp] theorem State.raiseOn_trx (s : State) (n : Notice) (w : Port → Role → Bool) : (s.raiseOn n w).trx = s.trx := rfl
@[simp] theorem State.raiseOn_watchPath (s : State) (n : Notice) (w : Port → Role → Bool) : (s.raiseOn n w).watchPath = s.watchPath := rfl
@[simp] theorem State.raiseOn_sampler (s : State) (n : Notice) (w : Port → Role → Bool) : (s.raiseOn n w).sampler = s.sampler := rfl
@[simp] theorem State.raiseOn_scanner (s : State) (n : Notice) (w : Port → Role → Bool) : (s.raiseOn n w).scanner = s.scanner := rfl
@[simp] theorem State.raiseOn_watch (s : State) (n : Notice) (w : Port → Role → Bool) : (s.raiseOn n w).watch = s.watch := rfl
@[simp] theorem State.raiseOn_arb (s : State) (n : Notice) (w : Port → Role → Bool) : (s.raiseOn n w).arb = s.arb := rfl
@[simp] theorem State.raiseOn_tuner (s : State) (n : Notice) (w : Port → Role → Bool) : (s.raiseOn n w).tuner = s.tuner := rfl
@[simp] theorem State.raiseOn_tstb (s : State) (n : Notice) (w : Port → Role → Bool) : (s.raiseOn n w).tstb = s.tstb := rfl
@[simp] theorem State.raiseOn_wstb (s : State) (n : Notice) (w : Port → Role → Bool) : (s.raiseOn n w).wstb = s.wstb := rfl
@[simp] theorem State.raiseOn_tx (s : State) (n : Notice) (w : Port → Role → Bool) : (s.raiseOn n w).tx = s.tx := rfl
@[simp] theorem State.raiseOn_monitor (s : State) (n : Notice) (w : Port → Role → Bool) : (s.raiseOn n w).monitor = s.monitor := rfl
@[simp] theorem State.raiseOn_fault (s : State) (n : Notice) (w : Port → Role → Bool) : (s.raiseOn n w).fault = s.fault := rfl
@[simp] theorem State.raiseOn_store (s : State) (n : Notice) (w : Port → Role → Bool) : (s.raiseOn n w).store = s.store := rfl
@[simp] theorem State.raiseOn_log (s : State) (n : Notice) (w : Port → Role → Bool) : (s.raiseOn n w).log = s.log := rfl
@[simp] theorem State.raiseOn_queue (s : State) (n : Notice) (w : Port → Role → Bool) : (s.raiseOn n w).queue = s.queue := rfl
@[simp] theorem State.raiseOn_inbound (s : State) (n : Notice) (w : Port → Role → Bool) : (s.raiseOn n w).inbound = s.inbound := rfl
@[simp] theorem State.raiseOn_link (s : State) (n : Notice) (w : Port → Role → Bool) : (s.raiseOn n w).link = s.link := rfl
@[simp] theorem State.raiseOn_windows (s : State) (n : Notice) (w : Port → Role → Bool) : (s.raiseOn n w).windows = s.windows := rfl
@[simp] theorem State.raiseOn_bull (s : State) (n : Notice) (w : Port → Role → Bool) : (s.raiseOn n w).bull = s.bull := rfl
@[simp] theorem State.raiseOn_own (s : State) (n : Notice) (w : Port → Role → Bool) : (s.raiseOn n w).own = s.own := rfl
@[simp] theorem State.raiseOn_cycle (s : State) (n : Notice) (w : Port → Role → Bool) : (s.raiseOn n w).cycle = s.cycle := rfl
@[simp] theorem State.raiseOn_frameBuf (s : State) (n : Notice) (w : Port → Role → Bool) : (s.raiseOn n w).frameBuf = s.frameBuf := rfl
@[simp] theorem State.raiseOn_heard (s : State) (n : Notice) (w : Port → Role → Bool) : (s.raiseOn n w).heard = s.heard := rfl
@[simp] theorem State.raiseOn_heardCounts (s : State) (n : Notice) (w : Port → Role → Bool) : (s.raiseOn n w).heardCounts = s.heardCounts := rfl
@[simp] theorem State.raiseOn_silence (s : State) (n : Notice) (w : Port → Role → Bool) : (s.raiseOn n w).silence = s.silence := rfl
@[simp] theorem State.raiseOn_alarm (s : State) (n : Notice) (w : Port → Role → Bool) : (s.raiseOn n w).alarm = s.alarm := rfl
@[simp] theorem State.raiseOn_signals (s : State) (n : Notice) (w : Port → Role → Bool) : (s.raiseOn n w).signals = s.signals := rfl
@[simp] theorem State.raiseOn_freeCount (s : State) (n : Notice) (w : Port → Role → Bool) : (s.raiseOn n w).freeCount = s.freeCount := rfl
@[simp] theorem State.raiseOn_pending (s : State) (n : Notice) (w : Port → Role → Bool) : (s.raiseOn n w).pending = s.pending := rfl

/-! ## raiseAll -/

@[simp] theorem State.raiseAll_supply (s : State) (n : Notice) : (s.raiseAll n).supply = s.supply := rfl
@[simp] theorem State.raiseAll_pins (s : State) (n : Notice) : (s.raiseAll n).pins = s.pins := rfl
@[simp] theorem State.raiseAll_time (s : State) (n : Notice) : (s.raiseAll n).time = s.time := rfl
@[simp] theorem State.raiseAll_position (s : State) (n : Notice) : (s.raiseAll n).position = s.position := rfl
@[simp] theorem State.raiseAll_ident (s : State) (n : Notice) : (s.raiseAll n).ident = s.ident := rfl
@[simp] theorem State.raiseAll_channels (s : State) (n : Notice) : (s.raiseAll n).channels = s.channels := rfl
@[simp] theorem State.raiseAll_trx (s : State) (n : Notice) : (s.raiseAll n).trx = s.trx := rfl
@[simp] theorem State.raiseAll_watchPath (s : State) (n : Notice) : (s.raiseAll n).watchPath = s.watchPath := rfl
@[simp] theorem State.raiseAll_sampler (s : State) (n : Notice) : (s.raiseAll n).sampler = s.sampler := rfl
@[simp] theorem State.raiseAll_scanner (s : State) (n : Notice) : (s.raiseAll n).scanner = s.scanner := rfl
@[simp] theorem State.raiseAll_watch (s : State) (n : Notice) : (s.raiseAll n).watch = s.watch := rfl
@[simp] theorem State.raiseAll_arb (s : State) (n : Notice) : (s.raiseAll n).arb = s.arb := rfl
@[simp] theorem State.raiseAll_tuner (s : State) (n : Notice) : (s.raiseAll n).tuner = s.tuner := rfl
@[simp] theorem State.raiseAll_tstb (s : State) (n : Notice) : (s.raiseAll n).tstb = s.tstb := rfl
@[simp] theorem State.raiseAll_wstb (s : State) (n : Notice) : (s.raiseAll n).wstb = s.wstb := rfl
@[simp] theorem State.raiseAll_tx (s : State) (n : Notice) : (s.raiseAll n).tx = s.tx := rfl
@[simp] theorem State.raiseAll_monitor (s : State) (n : Notice) : (s.raiseAll n).monitor = s.monitor := rfl
@[simp] theorem State.raiseAll_fault (s : State) (n : Notice) : (s.raiseAll n).fault = s.fault := rfl
@[simp] theorem State.raiseAll_store (s : State) (n : Notice) : (s.raiseAll n).store = s.store := rfl
@[simp] theorem State.raiseAll_log (s : State) (n : Notice) : (s.raiseAll n).log = s.log := rfl
@[simp] theorem State.raiseAll_queue (s : State) (n : Notice) : (s.raiseAll n).queue = s.queue := rfl
@[simp] theorem State.raiseAll_inbound (s : State) (n : Notice) : (s.raiseAll n).inbound = s.inbound := rfl
@[simp] theorem State.raiseAll_link (s : State) (n : Notice) : (s.raiseAll n).link = s.link := rfl
@[simp] theorem State.raiseAll_windows (s : State) (n : Notice) : (s.raiseAll n).windows = s.windows := rfl
@[simp] theorem State.raiseAll_bull (s : State) (n : Notice) : (s.raiseAll n).bull = s.bull := rfl
@[simp] theorem State.raiseAll_own (s : State) (n : Notice) : (s.raiseAll n).own = s.own := rfl
@[simp] theorem State.raiseAll_cycle (s : State) (n : Notice) : (s.raiseAll n).cycle = s.cycle := rfl
@[simp] theorem State.raiseAll_frameBuf (s : State) (n : Notice) : (s.raiseAll n).frameBuf = s.frameBuf := rfl
@[simp] theorem State.raiseAll_heard (s : State) (n : Notice) : (s.raiseAll n).heard = s.heard := rfl
@[simp] theorem State.raiseAll_heardCounts (s : State) (n : Notice) : (s.raiseAll n).heardCounts = s.heardCounts := rfl
@[simp] theorem State.raiseAll_silence (s : State) (n : Notice) : (s.raiseAll n).silence = s.silence := rfl
@[simp] theorem State.raiseAll_alarm (s : State) (n : Notice) : (s.raiseAll n).alarm = s.alarm := rfl
@[simp] theorem State.raiseAll_signals (s : State) (n : Notice) : (s.raiseAll n).signals = s.signals := rfl
@[simp] theorem State.raiseAll_freeCount (s : State) (n : Notice) : (s.raiseAll n).freeCount = s.freeCount := rfl
@[simp] theorem State.raiseAll_pending (s : State) (n : Notice) : (s.raiseAll n).pending = s.pending := rfl

/-! ## raiseOthers -/

@[simp] theorem State.raiseOthers_supply (s : State) (n : Notice) (p : Port) : (s.raiseOthers n p).supply = s.supply := rfl
@[simp] theorem State.raiseOthers_pins (s : State) (n : Notice) (p : Port) : (s.raiseOthers n p).pins = s.pins := rfl
@[simp] theorem State.raiseOthers_time (s : State) (n : Notice) (p : Port) : (s.raiseOthers n p).time = s.time := rfl
@[simp] theorem State.raiseOthers_position (s : State) (n : Notice) (p : Port) : (s.raiseOthers n p).position = s.position := rfl
@[simp] theorem State.raiseOthers_ident (s : State) (n : Notice) (p : Port) : (s.raiseOthers n p).ident = s.ident := rfl
@[simp] theorem State.raiseOthers_channels (s : State) (n : Notice) (p : Port) : (s.raiseOthers n p).channels = s.channels := rfl
@[simp] theorem State.raiseOthers_trx (s : State) (n : Notice) (p : Port) : (s.raiseOthers n p).trx = s.trx := rfl
@[simp] theorem State.raiseOthers_watchPath (s : State) (n : Notice) (p : Port) : (s.raiseOthers n p).watchPath = s.watchPath := rfl
@[simp] theorem State.raiseOthers_sampler (s : State) (n : Notice) (p : Port) : (s.raiseOthers n p).sampler = s.sampler := rfl
@[simp] theorem State.raiseOthers_scanner (s : State) (n : Notice) (p : Port) : (s.raiseOthers n p).scanner = s.scanner := rfl
@[simp] theorem State.raiseOthers_watch (s : State) (n : Notice) (p : Port) : (s.raiseOthers n p).watch = s.watch := rfl
@[simp] theorem State.raiseOthers_arb (s : State) (n : Notice) (p : Port) : (s.raiseOthers n p).arb = s.arb := rfl
@[simp] theorem State.raiseOthers_tuner (s : State) (n : Notice) (p : Port) : (s.raiseOthers n p).tuner = s.tuner := rfl
@[simp] theorem State.raiseOthers_tstb (s : State) (n : Notice) (p : Port) : (s.raiseOthers n p).tstb = s.tstb := rfl
@[simp] theorem State.raiseOthers_wstb (s : State) (n : Notice) (p : Port) : (s.raiseOthers n p).wstb = s.wstb := rfl
@[simp] theorem State.raiseOthers_tx (s : State) (n : Notice) (p : Port) : (s.raiseOthers n p).tx = s.tx := rfl
@[simp] theorem State.raiseOthers_monitor (s : State) (n : Notice) (p : Port) : (s.raiseOthers n p).monitor = s.monitor := rfl
@[simp] theorem State.raiseOthers_fault (s : State) (n : Notice) (p : Port) : (s.raiseOthers n p).fault = s.fault := rfl
@[simp] theorem State.raiseOthers_store (s : State) (n : Notice) (p : Port) : (s.raiseOthers n p).store = s.store := rfl
@[simp] theorem State.raiseOthers_log (s : State) (n : Notice) (p : Port) : (s.raiseOthers n p).log = s.log := rfl
@[simp] theorem State.raiseOthers_queue (s : State) (n : Notice) (p : Port) : (s.raiseOthers n p).queue = s.queue := rfl
@[simp] theorem State.raiseOthers_inbound (s : State) (n : Notice) (p : Port) : (s.raiseOthers n p).inbound = s.inbound := rfl
@[simp] theorem State.raiseOthers_link (s : State) (n : Notice) (p : Port) : (s.raiseOthers n p).link = s.link := rfl
@[simp] theorem State.raiseOthers_windows (s : State) (n : Notice) (p : Port) : (s.raiseOthers n p).windows = s.windows := rfl
@[simp] theorem State.raiseOthers_bull (s : State) (n : Notice) (p : Port) : (s.raiseOthers n p).bull = s.bull := rfl
@[simp] theorem State.raiseOthers_own (s : State) (n : Notice) (p : Port) : (s.raiseOthers n p).own = s.own := rfl
@[simp] theorem State.raiseOthers_cycle (s : State) (n : Notice) (p : Port) : (s.raiseOthers n p).cycle = s.cycle := rfl
@[simp] theorem State.raiseOthers_frameBuf (s : State) (n : Notice) (p : Port) : (s.raiseOthers n p).frameBuf = s.frameBuf := rfl
@[simp] theorem State.raiseOthers_heard (s : State) (n : Notice) (p : Port) : (s.raiseOthers n p).heard = s.heard := rfl
@[simp] theorem State.raiseOthers_heardCounts (s : State) (n : Notice) (p : Port) : (s.raiseOthers n p).heardCounts = s.heardCounts := rfl
@[simp] theorem State.raiseOthers_silence (s : State) (n : Notice) (p : Port) : (s.raiseOthers n p).silence = s.silence := rfl
@[simp] theorem State.raiseOthers_alarm (s : State) (n : Notice) (p : Port) : (s.raiseOthers n p).alarm = s.alarm := rfl
@[simp] theorem State.raiseOthers_signals (s : State) (n : Notice) (p : Port) : (s.raiseOthers n p).signals = s.signals := rfl
@[simp] theorem State.raiseOthers_freeCount (s : State) (n : Notice) (p : Port) : (s.raiseOthers n p).freeCount = s.freeCount := rfl
@[simp] theorem State.raiseOthers_pending (s : State) (n : Notice) (p : Port) : (s.raiseOthers n p).pending = s.pending := rfl

/-! ## setPort -/

@[simp] theorem State.setPort_supply (s : State) (p : Port) (c : PortCtx) : (s.setPort p c).supply = s.supply := rfl
@[simp] theorem State.setPort_pins (s : State) (p : Port) (c : PortCtx) : (s.setPort p c).pins = s.pins := rfl
@[simp] theorem State.setPort_time (s : State) (p : Port) (c : PortCtx) : (s.setPort p c).time = s.time := rfl
@[simp] theorem State.setPort_position (s : State) (p : Port) (c : PortCtx) : (s.setPort p c).position = s.position := rfl
@[simp] theorem State.setPort_ident (s : State) (p : Port) (c : PortCtx) : (s.setPort p c).ident = s.ident := rfl
@[simp] theorem State.setPort_channels (s : State) (p : Port) (c : PortCtx) : (s.setPort p c).channels = s.channels := rfl
@[simp] theorem State.setPort_trx (s : State) (p : Port) (c : PortCtx) : (s.setPort p c).trx = s.trx := rfl
@[simp] theorem State.setPort_watchPath (s : State) (p : Port) (c : PortCtx) : (s.setPort p c).watchPath = s.watchPath := rfl
@[simp] theorem State.setPort_sampler (s : State) (p : Port) (c : PortCtx) : (s.setPort p c).sampler = s.sampler := rfl
@[simp] theorem State.setPort_scanner (s : State) (p : Port) (c : PortCtx) : (s.setPort p c).scanner = s.scanner := rfl
@[simp] theorem State.setPort_watch (s : State) (p : Port) (c : PortCtx) : (s.setPort p c).watch = s.watch := rfl
@[simp] theorem State.setPort_arb (s : State) (p : Port) (c : PortCtx) : (s.setPort p c).arb = s.arb := rfl
@[simp] theorem State.setPort_tuner (s : State) (p : Port) (c : PortCtx) : (s.setPort p c).tuner = s.tuner := rfl
@[simp] theorem State.setPort_tstb (s : State) (p : Port) (c : PortCtx) : (s.setPort p c).tstb = s.tstb := rfl
@[simp] theorem State.setPort_wstb (s : State) (p : Port) (c : PortCtx) : (s.setPort p c).wstb = s.wstb := rfl
@[simp] theorem State.setPort_tx (s : State) (p : Port) (c : PortCtx) : (s.setPort p c).tx = s.tx := rfl
@[simp] theorem State.setPort_monitor (s : State) (p : Port) (c : PortCtx) : (s.setPort p c).monitor = s.monitor := rfl
@[simp] theorem State.setPort_fault (s : State) (p : Port) (c : PortCtx) : (s.setPort p c).fault = s.fault := rfl
@[simp] theorem State.setPort_store (s : State) (p : Port) (c : PortCtx) : (s.setPort p c).store = s.store := rfl
@[simp] theorem State.setPort_log (s : State) (p : Port) (c : PortCtx) : (s.setPort p c).log = s.log := rfl
@[simp] theorem State.setPort_queue (s : State) (p : Port) (c : PortCtx) : (s.setPort p c).queue = s.queue := rfl
@[simp] theorem State.setPort_inbound (s : State) (p : Port) (c : PortCtx) : (s.setPort p c).inbound = s.inbound := rfl
@[simp] theorem State.setPort_link (s : State) (p : Port) (c : PortCtx) : (s.setPort p c).link = s.link := rfl
@[simp] theorem State.setPort_windows (s : State) (p : Port) (c : PortCtx) : (s.setPort p c).windows = s.windows := rfl
@[simp] theorem State.setPort_bull (s : State) (p : Port) (c : PortCtx) : (s.setPort p c).bull = s.bull := rfl
@[simp] theorem State.setPort_own (s : State) (p : Port) (c : PortCtx) : (s.setPort p c).own = s.own := rfl
@[simp] theorem State.setPort_cycle (s : State) (p : Port) (c : PortCtx) : (s.setPort p c).cycle = s.cycle := rfl
@[simp] theorem State.setPort_frameBuf (s : State) (p : Port) (c : PortCtx) : (s.setPort p c).frameBuf = s.frameBuf := rfl
@[simp] theorem State.setPort_heard (s : State) (p : Port) (c : PortCtx) : (s.setPort p c).heard = s.heard := rfl
@[simp] theorem State.setPort_heardCounts (s : State) (p : Port) (c : PortCtx) : (s.setPort p c).heardCounts = s.heardCounts := rfl
@[simp] theorem State.setPort_silence (s : State) (p : Port) (c : PortCtx) : (s.setPort p c).silence = s.silence := rfl
@[simp] theorem State.setPort_alarm (s : State) (p : Port) (c : PortCtx) : (s.setPort p c).alarm = s.alarm := rfl
@[simp] theorem State.setPort_signals (s : State) (p : Port) (c : PortCtx) : (s.setPort p c).signals = s.signals := rfl
@[simp] theorem State.setPort_freeCount (s : State) (p : Port) (c : PortCtx) : (s.setPort p c).freeCount = s.freeCount := rfl
@[simp] theorem State.setPort_pending (s : State) (p : Port) (c : PortCtx) : (s.setPort p c).pending = s.pending := rfl

/-! ## loseHolds -/

@[simp] theorem State.loseHolds_supply (s : State) (w : HoldRef → Bool) : (s.loseHolds w).supply = s.supply := rfl
@[simp] theorem State.loseHolds_pins (s : State) (w : HoldRef → Bool) : (s.loseHolds w).pins = s.pins := rfl
@[simp] theorem State.loseHolds_time (s : State) (w : HoldRef → Bool) : (s.loseHolds w).time = s.time := rfl
@[simp] theorem State.loseHolds_position (s : State) (w : HoldRef → Bool) : (s.loseHolds w).position = s.position := rfl
@[simp] theorem State.loseHolds_ident (s : State) (w : HoldRef → Bool) : (s.loseHolds w).ident = s.ident := rfl
@[simp] theorem State.loseHolds_channels (s : State) (w : HoldRef → Bool) : (s.loseHolds w).channels = s.channels := rfl
@[simp] theorem State.loseHolds_trx (s : State) (w : HoldRef → Bool) : (s.loseHolds w).trx = s.trx := rfl
@[simp] theorem State.loseHolds_watchPath (s : State) (w : HoldRef → Bool) : (s.loseHolds w).watchPath = s.watchPath := rfl
@[simp] theorem State.loseHolds_sampler (s : State) (w : HoldRef → Bool) : (s.loseHolds w).sampler = s.sampler := rfl
@[simp] theorem State.loseHolds_scanner (s : State) (w : HoldRef → Bool) : (s.loseHolds w).scanner = s.scanner := rfl
@[simp] theorem State.loseHolds_watch (s : State) (w : HoldRef → Bool) : (s.loseHolds w).watch = s.watch := rfl
@[simp] theorem State.loseHolds_arb (s : State) (w : HoldRef → Bool) : (s.loseHolds w).arb = s.arb := rfl
@[simp] theorem State.loseHolds_tuner (s : State) (w : HoldRef → Bool) : (s.loseHolds w).tuner = s.tuner := rfl
@[simp] theorem State.loseHolds_tstb (s : State) (w : HoldRef → Bool) : (s.loseHolds w).tstb = s.tstb := rfl
@[simp] theorem State.loseHolds_wstb (s : State) (w : HoldRef → Bool) : (s.loseHolds w).wstb = s.wstb := rfl
@[simp] theorem State.loseHolds_tx (s : State) (w : HoldRef → Bool) : (s.loseHolds w).tx = s.tx := rfl
@[simp] theorem State.loseHolds_monitor (s : State) (w : HoldRef → Bool) : (s.loseHolds w).monitor = s.monitor := rfl
@[simp] theorem State.loseHolds_fault (s : State) (w : HoldRef → Bool) : (s.loseHolds w).fault = s.fault := rfl
@[simp] theorem State.loseHolds_store (s : State) (w : HoldRef → Bool) : (s.loseHolds w).store = s.store := rfl
@[simp] theorem State.loseHolds_log (s : State) (w : HoldRef → Bool) : (s.loseHolds w).log = s.log := rfl
@[simp] theorem State.loseHolds_queue (s : State) (w : HoldRef → Bool) : (s.loseHolds w).queue = s.queue := rfl
@[simp] theorem State.loseHolds_inbound (s : State) (w : HoldRef → Bool) : (s.loseHolds w).inbound = s.inbound := rfl
@[simp] theorem State.loseHolds_link (s : State) (w : HoldRef → Bool) : (s.loseHolds w).link = s.link := rfl
@[simp] theorem State.loseHolds_windows (s : State) (w : HoldRef → Bool) : (s.loseHolds w).windows = s.windows := rfl
@[simp] theorem State.loseHolds_bull (s : State) (w : HoldRef → Bool) : (s.loseHolds w).bull = s.bull := rfl
@[simp] theorem State.loseHolds_own (s : State) (w : HoldRef → Bool) : (s.loseHolds w).own = s.own := rfl
@[simp] theorem State.loseHolds_cycle (s : State) (w : HoldRef → Bool) : (s.loseHolds w).cycle = s.cycle := rfl
@[simp] theorem State.loseHolds_frameBuf (s : State) (w : HoldRef → Bool) : (s.loseHolds w).frameBuf = s.frameBuf := rfl
@[simp] theorem State.loseHolds_heard (s : State) (w : HoldRef → Bool) : (s.loseHolds w).heard = s.heard := rfl
@[simp] theorem State.loseHolds_heardCounts (s : State) (w : HoldRef → Bool) : (s.loseHolds w).heardCounts = s.heardCounts := rfl
@[simp] theorem State.loseHolds_silence (s : State) (w : HoldRef → Bool) : (s.loseHolds w).silence = s.silence := rfl
@[simp] theorem State.loseHolds_alarm (s : State) (w : HoldRef → Bool) : (s.loseHolds w).alarm = s.alarm := rfl
@[simp] theorem State.loseHolds_signals (s : State) (w : HoldRef → Bool) : (s.loseHolds w).signals = s.signals := rfl
@[simp] theorem State.loseHolds_freeCount (s : State) (w : HoldRef → Bool) : (s.loseHolds w).freeCount = s.freeCount := rfl
@[simp] theorem State.loseHolds_pending (s : State) (w : HoldRef → Bool) : (s.loseHolds w).pending = s.pending := rfl

/-! ## alarmActive -/

@[simp] theorem State.alarmActive_supply (s : State) (c : Cause) (b : Bool) : (s.alarmActive c b).supply = s.supply := rfl
@[simp] theorem State.alarmActive_pins (s : State) (c : Cause) (b : Bool) : (s.alarmActive c b).pins = s.pins := rfl
@[simp] theorem State.alarmActive_time (s : State) (c : Cause) (b : Bool) : (s.alarmActive c b).time = s.time := rfl
@[simp] theorem State.alarmActive_position (s : State) (c : Cause) (b : Bool) : (s.alarmActive c b).position = s.position := rfl
@[simp] theorem State.alarmActive_ident (s : State) (c : Cause) (b : Bool) : (s.alarmActive c b).ident = s.ident := rfl
@[simp] theorem State.alarmActive_channels (s : State) (c : Cause) (b : Bool) : (s.alarmActive c b).channels = s.channels := rfl
@[simp] theorem State.alarmActive_trx (s : State) (c : Cause) (b : Bool) : (s.alarmActive c b).trx = s.trx := rfl
@[simp] theorem State.alarmActive_watchPath (s : State) (c : Cause) (b : Bool) : (s.alarmActive c b).watchPath = s.watchPath := rfl
@[simp] theorem State.alarmActive_sampler (s : State) (c : Cause) (b : Bool) : (s.alarmActive c b).sampler = s.sampler := rfl
@[simp] theorem State.alarmActive_scanner (s : State) (c : Cause) (b : Bool) : (s.alarmActive c b).scanner = s.scanner := rfl
@[simp] theorem State.alarmActive_watch (s : State) (c : Cause) (b : Bool) : (s.alarmActive c b).watch = s.watch := rfl
@[simp] theorem State.alarmActive_arb (s : State) (c : Cause) (b : Bool) : (s.alarmActive c b).arb = s.arb := rfl
@[simp] theorem State.alarmActive_tuner (s : State) (c : Cause) (b : Bool) : (s.alarmActive c b).tuner = s.tuner := rfl
@[simp] theorem State.alarmActive_tstb (s : State) (c : Cause) (b : Bool) : (s.alarmActive c b).tstb = s.tstb := rfl
@[simp] theorem State.alarmActive_wstb (s : State) (c : Cause) (b : Bool) : (s.alarmActive c b).wstb = s.wstb := rfl
@[simp] theorem State.alarmActive_tx (s : State) (c : Cause) (b : Bool) : (s.alarmActive c b).tx = s.tx := rfl
@[simp] theorem State.alarmActive_monitor (s : State) (c : Cause) (b : Bool) : (s.alarmActive c b).monitor = s.monitor := rfl
@[simp] theorem State.alarmActive_fault (s : State) (c : Cause) (b : Bool) : (s.alarmActive c b).fault = s.fault := rfl
@[simp] theorem State.alarmActive_store (s : State) (c : Cause) (b : Bool) : (s.alarmActive c b).store = s.store := rfl
@[simp] theorem State.alarmActive_log (s : State) (c : Cause) (b : Bool) : (s.alarmActive c b).log = s.log := rfl
@[simp] theorem State.alarmActive_queue (s : State) (c : Cause) (b : Bool) : (s.alarmActive c b).queue = s.queue := rfl
@[simp] theorem State.alarmActive_inbound (s : State) (c : Cause) (b : Bool) : (s.alarmActive c b).inbound = s.inbound := rfl
@[simp] theorem State.alarmActive_link (s : State) (c : Cause) (b : Bool) : (s.alarmActive c b).link = s.link := rfl
@[simp] theorem State.alarmActive_windows (s : State) (c : Cause) (b : Bool) : (s.alarmActive c b).windows = s.windows := rfl
@[simp] theorem State.alarmActive_bull (s : State) (c : Cause) (b : Bool) : (s.alarmActive c b).bull = s.bull := rfl
@[simp] theorem State.alarmActive_own (s : State) (c : Cause) (b : Bool) : (s.alarmActive c b).own = s.own := rfl
@[simp] theorem State.alarmActive_cycle (s : State) (c : Cause) (b : Bool) : (s.alarmActive c b).cycle = s.cycle := rfl
@[simp] theorem State.alarmActive_frameBuf (s : State) (c : Cause) (b : Bool) : (s.alarmActive c b).frameBuf = s.frameBuf := rfl
@[simp] theorem State.alarmActive_heard (s : State) (c : Cause) (b : Bool) : (s.alarmActive c b).heard = s.heard := rfl
@[simp] theorem State.alarmActive_heardCounts (s : State) (c : Cause) (b : Bool) : (s.alarmActive c b).heardCounts = s.heardCounts := rfl
@[simp] theorem State.alarmActive_silence (s : State) (c : Cause) (b : Bool) : (s.alarmActive c b).silence = s.silence := rfl
@[simp] theorem State.alarmActive_ports (s : State) (c : Cause) (b : Bool) : (s.alarmActive c b).ports = s.ports := rfl
@[simp] theorem State.alarmActive_signals (s : State) (c : Cause) (b : Bool) : (s.alarmActive c b).signals = s.signals := rfl
@[simp] theorem State.alarmActive_freeCount (s : State) (c : Cause) (b : Bool) : (s.alarmActive c b).freeCount = s.freeCount := rfl
@[simp] theorem State.alarmActive_pending (s : State) (c : Cause) (b : Bool) : (s.alarmActive c b).pending = s.pending := rfl

/-! ## alarmEvent -/

@[simp] theorem State.alarmEvent_supply (s : State) (c : Cause) : (s.alarmEvent c).supply = s.supply := rfl
@[simp] theorem State.alarmEvent_pins (s : State) (c : Cause) : (s.alarmEvent c).pins = s.pins := rfl
@[simp] theorem State.alarmEvent_time (s : State) (c : Cause) : (s.alarmEvent c).time = s.time := rfl
@[simp] theorem State.alarmEvent_position (s : State) (c : Cause) : (s.alarmEvent c).position = s.position := rfl
@[simp] theorem State.alarmEvent_ident (s : State) (c : Cause) : (s.alarmEvent c).ident = s.ident := rfl
@[simp] theorem State.alarmEvent_channels (s : State) (c : Cause) : (s.alarmEvent c).channels = s.channels := rfl
@[simp] theorem State.alarmEvent_trx (s : State) (c : Cause) : (s.alarmEvent c).trx = s.trx := rfl
@[simp] theorem State.alarmEvent_watchPath (s : State) (c : Cause) : (s.alarmEvent c).watchPath = s.watchPath := rfl
@[simp] theorem State.alarmEvent_sampler (s : State) (c : Cause) : (s.alarmEvent c).sampler = s.sampler := rfl
@[simp] theorem State.alarmEvent_scanner (s : State) (c : Cause) : (s.alarmEvent c).scanner = s.scanner := rfl
@[simp] theorem State.alarmEvent_watch (s : State) (c : Cause) : (s.alarmEvent c).watch = s.watch := rfl
@[simp] theorem State.alarmEvent_arb (s : State) (c : Cause) : (s.alarmEvent c).arb = s.arb := rfl
@[simp] theorem State.alarmEvent_tuner (s : State) (c : Cause) : (s.alarmEvent c).tuner = s.tuner := rfl
@[simp] theorem State.alarmEvent_tstb (s : State) (c : Cause) : (s.alarmEvent c).tstb = s.tstb := rfl
@[simp] theorem State.alarmEvent_wstb (s : State) (c : Cause) : (s.alarmEvent c).wstb = s.wstb := rfl
@[simp] theorem State.alarmEvent_tx (s : State) (c : Cause) : (s.alarmEvent c).tx = s.tx := rfl
@[simp] theorem State.alarmEvent_monitor (s : State) (c : Cause) : (s.alarmEvent c).monitor = s.monitor := rfl
@[simp] theorem State.alarmEvent_fault (s : State) (c : Cause) : (s.alarmEvent c).fault = s.fault := rfl
@[simp] theorem State.alarmEvent_store (s : State) (c : Cause) : (s.alarmEvent c).store = s.store := rfl
@[simp] theorem State.alarmEvent_log (s : State) (c : Cause) : (s.alarmEvent c).log = s.log := rfl
@[simp] theorem State.alarmEvent_queue (s : State) (c : Cause) : (s.alarmEvent c).queue = s.queue := rfl
@[simp] theorem State.alarmEvent_inbound (s : State) (c : Cause) : (s.alarmEvent c).inbound = s.inbound := rfl
@[simp] theorem State.alarmEvent_link (s : State) (c : Cause) : (s.alarmEvent c).link = s.link := rfl
@[simp] theorem State.alarmEvent_windows (s : State) (c : Cause) : (s.alarmEvent c).windows = s.windows := rfl
@[simp] theorem State.alarmEvent_bull (s : State) (c : Cause) : (s.alarmEvent c).bull = s.bull := rfl
@[simp] theorem State.alarmEvent_own (s : State) (c : Cause) : (s.alarmEvent c).own = s.own := rfl
@[simp] theorem State.alarmEvent_cycle (s : State) (c : Cause) : (s.alarmEvent c).cycle = s.cycle := rfl
@[simp] theorem State.alarmEvent_frameBuf (s : State) (c : Cause) : (s.alarmEvent c).frameBuf = s.frameBuf := rfl
@[simp] theorem State.alarmEvent_heard (s : State) (c : Cause) : (s.alarmEvent c).heard = s.heard := rfl
@[simp] theorem State.alarmEvent_heardCounts (s : State) (c : Cause) : (s.alarmEvent c).heardCounts = s.heardCounts := rfl
@[simp] theorem State.alarmEvent_silence (s : State) (c : Cause) : (s.alarmEvent c).silence = s.silence := rfl
@[simp] theorem State.alarmEvent_ports (s : State) (c : Cause) : (s.alarmEvent c).ports = s.ports := rfl
@[simp] theorem State.alarmEvent_signals (s : State) (c : Cause) : (s.alarmEvent c).signals = s.signals := rfl
@[simp] theorem State.alarmEvent_freeCount (s : State) (c : Cause) : (s.alarmEvent c).freeCount = s.freeCount := rfl
@[simp] theorem State.alarmEvent_pending (s : State) (c : Cause) : (s.alarmEvent c).pending = s.pending := rfl

/-! ## drawn -/

@[simp] theorem State.drawn_supply (s : State) : (s.drawn).supply = s.supply := rfl
@[simp] theorem State.drawn_pins (s : State) : (s.drawn).pins = s.pins := rfl
@[simp] theorem State.drawn_time (s : State) : (s.drawn).time = s.time := rfl
@[simp] theorem State.drawn_position (s : State) : (s.drawn).position = s.position := rfl
@[simp] theorem State.drawn_ident (s : State) : (s.drawn).ident = s.ident := rfl
@[simp] theorem State.drawn_channels (s : State) : (s.drawn).channels = s.channels := rfl
@[simp] theorem State.drawn_trx (s : State) : (s.drawn).trx = s.trx := rfl
@[simp] theorem State.drawn_watchPath (s : State) : (s.drawn).watchPath = s.watchPath := rfl
@[simp] theorem State.drawn_sampler (s : State) : (s.drawn).sampler = s.sampler := rfl
@[simp] theorem State.drawn_scanner (s : State) : (s.drawn).scanner = s.scanner := rfl
@[simp] theorem State.drawn_watch (s : State) : (s.drawn).watch = s.watch := rfl
@[simp] theorem State.drawn_arb (s : State) : (s.drawn).arb = s.arb := rfl
@[simp] theorem State.drawn_tuner (s : State) : (s.drawn).tuner = s.tuner := rfl
@[simp] theorem State.drawn_tstb (s : State) : (s.drawn).tstb = s.tstb := rfl
@[simp] theorem State.drawn_wstb (s : State) : (s.drawn).wstb = s.wstb := rfl
@[simp] theorem State.drawn_tx (s : State) : (s.drawn).tx = s.tx := rfl
@[simp] theorem State.drawn_monitor (s : State) : (s.drawn).monitor = s.monitor := rfl
@[simp] theorem State.drawn_fault (s : State) : (s.drawn).fault = s.fault := rfl
@[simp] theorem State.drawn_store (s : State) : (s.drawn).store = s.store := rfl
@[simp] theorem State.drawn_log (s : State) : (s.drawn).log = s.log := rfl
@[simp] theorem State.drawn_queue (s : State) : (s.drawn).queue = s.queue := rfl
@[simp] theorem State.drawn_inbound (s : State) : (s.drawn).inbound = s.inbound := rfl
@[simp] theorem State.drawn_link (s : State) : (s.drawn).link = s.link := rfl
@[simp] theorem State.drawn_windows (s : State) : (s.drawn).windows = s.windows := rfl
@[simp] theorem State.drawn_bull (s : State) : (s.drawn).bull = s.bull := rfl
@[simp] theorem State.drawn_own (s : State) : (s.drawn).own = s.own := rfl
@[simp] theorem State.drawn_cycle (s : State) : (s.drawn).cycle = s.cycle := rfl
@[simp] theorem State.drawn_frameBuf (s : State) : (s.drawn).frameBuf = s.frameBuf := rfl
@[simp] theorem State.drawn_heard (s : State) : (s.drawn).heard = s.heard := rfl
@[simp] theorem State.drawn_heardCounts (s : State) : (s.drawn).heardCounts = s.heardCounts := rfl
@[simp] theorem State.drawn_silence (s : State) : (s.drawn).silence = s.silence := rfl
@[simp] theorem State.drawn_ports (s : State) : (s.drawn).ports = s.ports := rfl
@[simp] theorem State.drawn_alarm (s : State) : (s.drawn).alarm = s.alarm := rfl
@[simp] theorem State.drawn_signals (s : State) : (s.drawn).signals = s.signals := rfl
@[simp] theorem State.drawn_pending (s : State) : (s.drawn).pending = s.pending := rfl

/-! ## modChannel -/

@[simp] theorem State.modChannel_supply (s : State) (i : Nat) (f : Channel → Channel) : (s.modChannel i f).supply = s.supply := rfl
@[simp] theorem State.modChannel_pins (s : State) (i : Nat) (f : Channel → Channel) : (s.modChannel i f).pins = s.pins := rfl
@[simp] theorem State.modChannel_time (s : State) (i : Nat) (f : Channel → Channel) : (s.modChannel i f).time = s.time := rfl
@[simp] theorem State.modChannel_position (s : State) (i : Nat) (f : Channel → Channel) : (s.modChannel i f).position = s.position := rfl
@[simp] theorem State.modChannel_ident (s : State) (i : Nat) (f : Channel → Channel) : (s.modChannel i f).ident = s.ident := rfl
@[simp] theorem State.modChannel_trx (s : State) (i : Nat) (f : Channel → Channel) : (s.modChannel i f).trx = s.trx := rfl
@[simp] theorem State.modChannel_watchPath (s : State) (i : Nat) (f : Channel → Channel) : (s.modChannel i f).watchPath = s.watchPath := rfl
@[simp] theorem State.modChannel_sampler (s : State) (i : Nat) (f : Channel → Channel) : (s.modChannel i f).sampler = s.sampler := rfl
@[simp] theorem State.modChannel_scanner (s : State) (i : Nat) (f : Channel → Channel) : (s.modChannel i f).scanner = s.scanner := rfl
@[simp] theorem State.modChannel_watch (s : State) (i : Nat) (f : Channel → Channel) : (s.modChannel i f).watch = s.watch := rfl
@[simp] theorem State.modChannel_arb (s : State) (i : Nat) (f : Channel → Channel) : (s.modChannel i f).arb = s.arb := rfl
@[simp] theorem State.modChannel_tuner (s : State) (i : Nat) (f : Channel → Channel) : (s.modChannel i f).tuner = s.tuner := rfl
@[simp] theorem State.modChannel_tstb (s : State) (i : Nat) (f : Channel → Channel) : (s.modChannel i f).tstb = s.tstb := rfl
@[simp] theorem State.modChannel_wstb (s : State) (i : Nat) (f : Channel → Channel) : (s.modChannel i f).wstb = s.wstb := rfl
@[simp] theorem State.modChannel_tx (s : State) (i : Nat) (f : Channel → Channel) : (s.modChannel i f).tx = s.tx := rfl
@[simp] theorem State.modChannel_monitor (s : State) (i : Nat) (f : Channel → Channel) : (s.modChannel i f).monitor = s.monitor := rfl
@[simp] theorem State.modChannel_fault (s : State) (i : Nat) (f : Channel → Channel) : (s.modChannel i f).fault = s.fault := rfl
@[simp] theorem State.modChannel_store (s : State) (i : Nat) (f : Channel → Channel) : (s.modChannel i f).store = s.store := rfl
@[simp] theorem State.modChannel_log (s : State) (i : Nat) (f : Channel → Channel) : (s.modChannel i f).log = s.log := rfl
@[simp] theorem State.modChannel_queue (s : State) (i : Nat) (f : Channel → Channel) : (s.modChannel i f).queue = s.queue := rfl
@[simp] theorem State.modChannel_inbound (s : State) (i : Nat) (f : Channel → Channel) : (s.modChannel i f).inbound = s.inbound := rfl
@[simp] theorem State.modChannel_link (s : State) (i : Nat) (f : Channel → Channel) : (s.modChannel i f).link = s.link := rfl
@[simp] theorem State.modChannel_windows (s : State) (i : Nat) (f : Channel → Channel) : (s.modChannel i f).windows = s.windows := rfl
@[simp] theorem State.modChannel_bull (s : State) (i : Nat) (f : Channel → Channel) : (s.modChannel i f).bull = s.bull := rfl
@[simp] theorem State.modChannel_own (s : State) (i : Nat) (f : Channel → Channel) : (s.modChannel i f).own = s.own := rfl
@[simp] theorem State.modChannel_cycle (s : State) (i : Nat) (f : Channel → Channel) : (s.modChannel i f).cycle = s.cycle := rfl
@[simp] theorem State.modChannel_frameBuf (s : State) (i : Nat) (f : Channel → Channel) : (s.modChannel i f).frameBuf = s.frameBuf := rfl
@[simp] theorem State.modChannel_heard (s : State) (i : Nat) (f : Channel → Channel) : (s.modChannel i f).heard = s.heard := rfl
@[simp] theorem State.modChannel_heardCounts (s : State) (i : Nat) (f : Channel → Channel) : (s.modChannel i f).heardCounts = s.heardCounts := rfl
@[simp] theorem State.modChannel_silence (s : State) (i : Nat) (f : Channel → Channel) : (s.modChannel i f).silence = s.silence := rfl
@[simp] theorem State.modChannel_ports (s : State) (i : Nat) (f : Channel → Channel) : (s.modChannel i f).ports = s.ports := rfl
@[simp] theorem State.modChannel_alarm (s : State) (i : Nat) (f : Channel → Channel) : (s.modChannel i f).alarm = s.alarm := rfl
@[simp] theorem State.modChannel_signals (s : State) (i : Nat) (f : Channel → Channel) : (s.modChannel i f).signals = s.signals := rfl
@[simp] theorem State.modChannel_freeCount (s : State) (i : Nat) (f : Channel → Channel) : (s.modChannel i f).freeCount = s.freeCount := rfl
@[simp] theorem State.modChannel_pending (s : State) (i : Nat) (f : Channel → Channel) : (s.modChannel i f).pending = s.pending := rfl

/-! ## modWindow -/

@[simp] theorem State.modWindow_supply (s : State) (i : Nat) (f : Window → Window) : (s.modWindow i f).supply = s.supply := rfl
@[simp] theorem State.modWindow_pins (s : State) (i : Nat) (f : Window → Window) : (s.modWindow i f).pins = s.pins := rfl
@[simp] theorem State.modWindow_time (s : State) (i : Nat) (f : Window → Window) : (s.modWindow i f).time = s.time := rfl
@[simp] theorem State.modWindow_position (s : State) (i : Nat) (f : Window → Window) : (s.modWindow i f).position = s.position := rfl
@[simp] theorem State.modWindow_ident (s : State) (i : Nat) (f : Window → Window) : (s.modWindow i f).ident = s.ident := rfl
@[simp] theorem State.modWindow_channels (s : State) (i : Nat) (f : Window → Window) : (s.modWindow i f).channels = s.channels := rfl
@[simp] theorem State.modWindow_trx (s : State) (i : Nat) (f : Window → Window) : (s.modWindow i f).trx = s.trx := rfl
@[simp] theorem State.modWindow_watchPath (s : State) (i : Nat) (f : Window → Window) : (s.modWindow i f).watchPath = s.watchPath := rfl
@[simp] theorem State.modWindow_sampler (s : State) (i : Nat) (f : Window → Window) : (s.modWindow i f).sampler = s.sampler := rfl
@[simp] theorem State.modWindow_scanner (s : State) (i : Nat) (f : Window → Window) : (s.modWindow i f).scanner = s.scanner := rfl
@[simp] theorem State.modWindow_watch (s : State) (i : Nat) (f : Window → Window) : (s.modWindow i f).watch = s.watch := rfl
@[simp] theorem State.modWindow_arb (s : State) (i : Nat) (f : Window → Window) : (s.modWindow i f).arb = s.arb := rfl
@[simp] theorem State.modWindow_tuner (s : State) (i : Nat) (f : Window → Window) : (s.modWindow i f).tuner = s.tuner := rfl
@[simp] theorem State.modWindow_tstb (s : State) (i : Nat) (f : Window → Window) : (s.modWindow i f).tstb = s.tstb := rfl
@[simp] theorem State.modWindow_wstb (s : State) (i : Nat) (f : Window → Window) : (s.modWindow i f).wstb = s.wstb := rfl
@[simp] theorem State.modWindow_tx (s : State) (i : Nat) (f : Window → Window) : (s.modWindow i f).tx = s.tx := rfl
@[simp] theorem State.modWindow_monitor (s : State) (i : Nat) (f : Window → Window) : (s.modWindow i f).monitor = s.monitor := rfl
@[simp] theorem State.modWindow_fault (s : State) (i : Nat) (f : Window → Window) : (s.modWindow i f).fault = s.fault := rfl
@[simp] theorem State.modWindow_store (s : State) (i : Nat) (f : Window → Window) : (s.modWindow i f).store = s.store := rfl
@[simp] theorem State.modWindow_log (s : State) (i : Nat) (f : Window → Window) : (s.modWindow i f).log = s.log := rfl
@[simp] theorem State.modWindow_queue (s : State) (i : Nat) (f : Window → Window) : (s.modWindow i f).queue = s.queue := rfl
@[simp] theorem State.modWindow_inbound (s : State) (i : Nat) (f : Window → Window) : (s.modWindow i f).inbound = s.inbound := rfl
@[simp] theorem State.modWindow_link (s : State) (i : Nat) (f : Window → Window) : (s.modWindow i f).link = s.link := rfl
@[simp] theorem State.modWindow_bull (s : State) (i : Nat) (f : Window → Window) : (s.modWindow i f).bull = s.bull := rfl
@[simp] theorem State.modWindow_own (s : State) (i : Nat) (f : Window → Window) : (s.modWindow i f).own = s.own := rfl
@[simp] theorem State.modWindow_cycle (s : State) (i : Nat) (f : Window → Window) : (s.modWindow i f).cycle = s.cycle := rfl
@[simp] theorem State.modWindow_frameBuf (s : State) (i : Nat) (f : Window → Window) : (s.modWindow i f).frameBuf = s.frameBuf := rfl
@[simp] theorem State.modWindow_heard (s : State) (i : Nat) (f : Window → Window) : (s.modWindow i f).heard = s.heard := rfl
@[simp] theorem State.modWindow_heardCounts (s : State) (i : Nat) (f : Window → Window) : (s.modWindow i f).heardCounts = s.heardCounts := rfl
@[simp] theorem State.modWindow_silence (s : State) (i : Nat) (f : Window → Window) : (s.modWindow i f).silence = s.silence := rfl
@[simp] theorem State.modWindow_ports (s : State) (i : Nat) (f : Window → Window) : (s.modWindow i f).ports = s.ports := rfl
@[simp] theorem State.modWindow_alarm (s : State) (i : Nat) (f : Window → Window) : (s.modWindow i f).alarm = s.alarm := rfl
@[simp] theorem State.modWindow_signals (s : State) (i : Nat) (f : Window → Window) : (s.modWindow i f).signals = s.signals := rfl
@[simp] theorem State.modWindow_freeCount (s : State) (i : Nat) (f : Window → Window) : (s.modWindow i f).freeCount = s.freeCount := rfl
@[simp] theorem State.modWindow_pending (s : State) (i : Nat) (f : Window → Window) : (s.modWindow i f).pending = s.pending := rfl

/-! ## setLink -/

@[simp] theorem State.setLink_supply (s : State) (l : Link) : (s.setLink l).supply = s.supply := rfl
@[simp] theorem State.setLink_pins (s : State) (l : Link) : (s.setLink l).pins = s.pins := rfl
@[simp] theorem State.setLink_time (s : State) (l : Link) : (s.setLink l).time = s.time := rfl
@[simp] theorem State.setLink_position (s : State) (l : Link) : (s.setLink l).position = s.position := rfl
@[simp] theorem State.setLink_ident (s : State) (l : Link) : (s.setLink l).ident = s.ident := rfl
@[simp] theorem State.setLink_channels (s : State) (l : Link) : (s.setLink l).channels = s.channels := rfl
@[simp] theorem State.setLink_trx (s : State) (l : Link) : (s.setLink l).trx = s.trx := rfl
@[simp] theorem State.setLink_watchPath (s : State) (l : Link) : (s.setLink l).watchPath = s.watchPath := rfl
@[simp] theorem State.setLink_sampler (s : State) (l : Link) : (s.setLink l).sampler = s.sampler := rfl
@[simp] theorem State.setLink_scanner (s : State) (l : Link) : (s.setLink l).scanner = s.scanner := rfl
@[simp] theorem State.setLink_watch (s : State) (l : Link) : (s.setLink l).watch = s.watch := rfl
@[simp] theorem State.setLink_arb (s : State) (l : Link) : (s.setLink l).arb = s.arb := rfl
@[simp] theorem State.setLink_tuner (s : State) (l : Link) : (s.setLink l).tuner = s.tuner := rfl
@[simp] theorem State.setLink_tstb (s : State) (l : Link) : (s.setLink l).tstb = s.tstb := rfl
@[simp] theorem State.setLink_wstb (s : State) (l : Link) : (s.setLink l).wstb = s.wstb := rfl
@[simp] theorem State.setLink_tx (s : State) (l : Link) : (s.setLink l).tx = s.tx := rfl
@[simp] theorem State.setLink_monitor (s : State) (l : Link) : (s.setLink l).monitor = s.monitor := rfl
@[simp] theorem State.setLink_fault (s : State) (l : Link) : (s.setLink l).fault = s.fault := rfl
@[simp] theorem State.setLink_store (s : State) (l : Link) : (s.setLink l).store = s.store := rfl
@[simp] theorem State.setLink_log (s : State) (l : Link) : (s.setLink l).log = s.log := rfl
@[simp] theorem State.setLink_queue (s : State) (l : Link) : (s.setLink l).queue = s.queue := rfl
@[simp] theorem State.setLink_inbound (s : State) (l : Link) : (s.setLink l).inbound = s.inbound := rfl
@[simp] theorem State.setLink_windows (s : State) (l : Link) : (s.setLink l).windows = s.windows := rfl
@[simp] theorem State.setLink_bull (s : State) (l : Link) : (s.setLink l).bull = s.bull := rfl
@[simp] theorem State.setLink_own (s : State) (l : Link) : (s.setLink l).own = s.own := rfl
@[simp] theorem State.setLink_cycle (s : State) (l : Link) : (s.setLink l).cycle = s.cycle := rfl
@[simp] theorem State.setLink_frameBuf (s : State) (l : Link) : (s.setLink l).frameBuf = s.frameBuf := rfl
@[simp] theorem State.setLink_heard (s : State) (l : Link) : (s.setLink l).heard = s.heard := rfl
@[simp] theorem State.setLink_heardCounts (s : State) (l : Link) : (s.setLink l).heardCounts = s.heardCounts := rfl
@[simp] theorem State.setLink_silence (s : State) (l : Link) : (s.setLink l).silence = s.silence := rfl
@[simp] theorem State.setLink_ports (s : State) (l : Link) : (s.setLink l).ports = s.ports := rfl
@[simp] theorem State.setLink_alarm (s : State) (l : Link) : (s.setLink l).alarm = s.alarm := rfl
@[simp] theorem State.setLink_signals (s : State) (l : Link) : (s.setLink l).signals = s.signals := rfl
@[simp] theorem State.setLink_freeCount (s : State) (l : Link) : (s.setLink l).freeCount = s.freeCount := rfl
@[simp] theorem State.setLink_pending (s : State) (l : Link) : (s.setLink l).pending = s.pending := rfl

/-! ## setBull -/

@[simp] theorem State.setBull_supply (s : State) (b : BulletinEngine) : (s.setBull b).supply = s.supply := rfl
@[simp] theorem State.setBull_pins (s : State) (b : BulletinEngine) : (s.setBull b).pins = s.pins := rfl
@[simp] theorem State.setBull_time (s : State) (b : BulletinEngine) : (s.setBull b).time = s.time := rfl
@[simp] theorem State.setBull_position (s : State) (b : BulletinEngine) : (s.setBull b).position = s.position := rfl
@[simp] theorem State.setBull_ident (s : State) (b : BulletinEngine) : (s.setBull b).ident = s.ident := rfl
@[simp] theorem State.setBull_channels (s : State) (b : BulletinEngine) : (s.setBull b).channels = s.channels := rfl
@[simp] theorem State.setBull_trx (s : State) (b : BulletinEngine) : (s.setBull b).trx = s.trx := rfl
@[simp] theorem State.setBull_watchPath (s : State) (b : BulletinEngine) : (s.setBull b).watchPath = s.watchPath := rfl
@[simp] theorem State.setBull_sampler (s : State) (b : BulletinEngine) : (s.setBull b).sampler = s.sampler := rfl
@[simp] theorem State.setBull_scanner (s : State) (b : BulletinEngine) : (s.setBull b).scanner = s.scanner := rfl
@[simp] theorem State.setBull_watch (s : State) (b : BulletinEngine) : (s.setBull b).watch = s.watch := rfl
@[simp] theorem State.setBull_arb (s : State) (b : BulletinEngine) : (s.setBull b).arb = s.arb := rfl
@[simp] theorem State.setBull_tuner (s : State) (b : BulletinEngine) : (s.setBull b).tuner = s.tuner := rfl
@[simp] theorem State.setBull_tstb (s : State) (b : BulletinEngine) : (s.setBull b).tstb = s.tstb := rfl
@[simp] theorem State.setBull_wstb (s : State) (b : BulletinEngine) : (s.setBull b).wstb = s.wstb := rfl
@[simp] theorem State.setBull_tx (s : State) (b : BulletinEngine) : (s.setBull b).tx = s.tx := rfl
@[simp] theorem State.setBull_monitor (s : State) (b : BulletinEngine) : (s.setBull b).monitor = s.monitor := rfl
@[simp] theorem State.setBull_fault (s : State) (b : BulletinEngine) : (s.setBull b).fault = s.fault := rfl
@[simp] theorem State.setBull_store (s : State) (b : BulletinEngine) : (s.setBull b).store = s.store := rfl
@[simp] theorem State.setBull_log (s : State) (b : BulletinEngine) : (s.setBull b).log = s.log := rfl
@[simp] theorem State.setBull_queue (s : State) (b : BulletinEngine) : (s.setBull b).queue = s.queue := rfl
@[simp] theorem State.setBull_inbound (s : State) (b : BulletinEngine) : (s.setBull b).inbound = s.inbound := rfl
@[simp] theorem State.setBull_link (s : State) (b : BulletinEngine) : (s.setBull b).link = s.link := rfl
@[simp] theorem State.setBull_windows (s : State) (b : BulletinEngine) : (s.setBull b).windows = s.windows := rfl
@[simp] theorem State.setBull_own (s : State) (b : BulletinEngine) : (s.setBull b).own = s.own := rfl
@[simp] theorem State.setBull_cycle (s : State) (b : BulletinEngine) : (s.setBull b).cycle = s.cycle := rfl
@[simp] theorem State.setBull_frameBuf (s : State) (b : BulletinEngine) : (s.setBull b).frameBuf = s.frameBuf := rfl
@[simp] theorem State.setBull_heard (s : State) (b : BulletinEngine) : (s.setBull b).heard = s.heard := rfl
@[simp] theorem State.setBull_heardCounts (s : State) (b : BulletinEngine) : (s.setBull b).heardCounts = s.heardCounts := rfl
@[simp] theorem State.setBull_silence (s : State) (b : BulletinEngine) : (s.setBull b).silence = s.silence := rfl
@[simp] theorem State.setBull_ports (s : State) (b : BulletinEngine) : (s.setBull b).ports = s.ports := rfl
@[simp] theorem State.setBull_alarm (s : State) (b : BulletinEngine) : (s.setBull b).alarm = s.alarm := rfl
@[simp] theorem State.setBull_signals (s : State) (b : BulletinEngine) : (s.setBull b).signals = s.signals := rfl
@[simp] theorem State.setBull_freeCount (s : State) (b : BulletinEngine) : (s.setBull b).freeCount = s.freeCount := rfl
@[simp] theorem State.setBull_pending (s : State) (b : BulletinEngine) : (s.setBull b).pending = s.pending := rfl

/-! ## setOwn -/

@[simp] theorem State.setOwn_supply (s : State) (o : OwnAlert) : (s.setOwn o).supply = s.supply := rfl
@[simp] theorem State.setOwn_pins (s : State) (o : OwnAlert) : (s.setOwn o).pins = s.pins := rfl
@[simp] theorem State.setOwn_time (s : State) (o : OwnAlert) : (s.setOwn o).time = s.time := rfl
@[simp] theorem State.setOwn_position (s : State) (o : OwnAlert) : (s.setOwn o).position = s.position := rfl
@[simp] theorem State.setOwn_ident (s : State) (o : OwnAlert) : (s.setOwn o).ident = s.ident := rfl
@[simp] theorem State.setOwn_channels (s : State) (o : OwnAlert) : (s.setOwn o).channels = s.channels := rfl
@[simp] theorem State.setOwn_trx (s : State) (o : OwnAlert) : (s.setOwn o).trx = s.trx := rfl
@[simp] theorem State.setOwn_watchPath (s : State) (o : OwnAlert) : (s.setOwn o).watchPath = s.watchPath := rfl
@[simp] theorem State.setOwn_sampler (s : State) (o : OwnAlert) : (s.setOwn o).sampler = s.sampler := rfl
@[simp] theorem State.setOwn_scanner (s : State) (o : OwnAlert) : (s.setOwn o).scanner = s.scanner := rfl
@[simp] theorem State.setOwn_watch (s : State) (o : OwnAlert) : (s.setOwn o).watch = s.watch := rfl
@[simp] theorem State.setOwn_arb (s : State) (o : OwnAlert) : (s.setOwn o).arb = s.arb := rfl
@[simp] theorem State.setOwn_tuner (s : State) (o : OwnAlert) : (s.setOwn o).tuner = s.tuner := rfl
@[simp] theorem State.setOwn_tstb (s : State) (o : OwnAlert) : (s.setOwn o).tstb = s.tstb := rfl
@[simp] theorem State.setOwn_wstb (s : State) (o : OwnAlert) : (s.setOwn o).wstb = s.wstb := rfl
@[simp] theorem State.setOwn_tx (s : State) (o : OwnAlert) : (s.setOwn o).tx = s.tx := rfl
@[simp] theorem State.setOwn_monitor (s : State) (o : OwnAlert) : (s.setOwn o).monitor = s.monitor := rfl
@[simp] theorem State.setOwn_fault (s : State) (o : OwnAlert) : (s.setOwn o).fault = s.fault := rfl
@[simp] theorem State.setOwn_store (s : State) (o : OwnAlert) : (s.setOwn o).store = s.store := rfl
@[simp] theorem State.setOwn_log (s : State) (o : OwnAlert) : (s.setOwn o).log = s.log := rfl
@[simp] theorem State.setOwn_queue (s : State) (o : OwnAlert) : (s.setOwn o).queue = s.queue := rfl
@[simp] theorem State.setOwn_inbound (s : State) (o : OwnAlert) : (s.setOwn o).inbound = s.inbound := rfl
@[simp] theorem State.setOwn_link (s : State) (o : OwnAlert) : (s.setOwn o).link = s.link := rfl
@[simp] theorem State.setOwn_windows (s : State) (o : OwnAlert) : (s.setOwn o).windows = s.windows := rfl
@[simp] theorem State.setOwn_bull (s : State) (o : OwnAlert) : (s.setOwn o).bull = s.bull := rfl
@[simp] theorem State.setOwn_cycle (s : State) (o : OwnAlert) : (s.setOwn o).cycle = s.cycle := rfl
@[simp] theorem State.setOwn_frameBuf (s : State) (o : OwnAlert) : (s.setOwn o).frameBuf = s.frameBuf := rfl
@[simp] theorem State.setOwn_heard (s : State) (o : OwnAlert) : (s.setOwn o).heard = s.heard := rfl
@[simp] theorem State.setOwn_heardCounts (s : State) (o : OwnAlert) : (s.setOwn o).heardCounts = s.heardCounts := rfl
@[simp] theorem State.setOwn_silence (s : State) (o : OwnAlert) : (s.setOwn o).silence = s.silence := rfl
@[simp] theorem State.setOwn_ports (s : State) (o : OwnAlert) : (s.setOwn o).ports = s.ports := rfl
@[simp] theorem State.setOwn_alarm (s : State) (o : OwnAlert) : (s.setOwn o).alarm = s.alarm := rfl
@[simp] theorem State.setOwn_signals (s : State) (o : OwnAlert) : (s.setOwn o).signals = s.signals := rfl
@[simp] theorem State.setOwn_freeCount (s : State) (o : OwnAlert) : (s.setOwn o).freeCount = s.freeCount := rfl
@[simp] theorem State.setOwn_pending (s : State) (o : OwnAlert) : (s.setOwn o).pending = s.pending := rfl

/-! ## setEntries -/

@[simp] theorem State.setEntries_supply (s : State) (l : List Nat) : (s.setEntries l).supply = s.supply := rfl
@[simp] theorem State.setEntries_pins (s : State) (l : List Nat) : (s.setEntries l).pins = s.pins := rfl
@[simp] theorem State.setEntries_time (s : State) (l : List Nat) : (s.setEntries l).time = s.time := rfl
@[simp] theorem State.setEntries_position (s : State) (l : List Nat) : (s.setEntries l).position = s.position := rfl
@[simp] theorem State.setEntries_ident (s : State) (l : List Nat) : (s.setEntries l).ident = s.ident := rfl
@[simp] theorem State.setEntries_channels (s : State) (l : List Nat) : (s.setEntries l).channels = s.channels := rfl
@[simp] theorem State.setEntries_trx (s : State) (l : List Nat) : (s.setEntries l).trx = s.trx := rfl
@[simp] theorem State.setEntries_watchPath (s : State) (l : List Nat) : (s.setEntries l).watchPath = s.watchPath := rfl
@[simp] theorem State.setEntries_sampler (s : State) (l : List Nat) : (s.setEntries l).sampler = s.sampler := rfl
@[simp] theorem State.setEntries_scanner (s : State) (l : List Nat) : (s.setEntries l).scanner = s.scanner := rfl
@[simp] theorem State.setEntries_watch (s : State) (l : List Nat) : (s.setEntries l).watch = s.watch := rfl
@[simp] theorem State.setEntries_arb (s : State) (l : List Nat) : (s.setEntries l).arb = s.arb := rfl
@[simp] theorem State.setEntries_tuner (s : State) (l : List Nat) : (s.setEntries l).tuner = s.tuner := rfl
@[simp] theorem State.setEntries_tstb (s : State) (l : List Nat) : (s.setEntries l).tstb = s.tstb := rfl
@[simp] theorem State.setEntries_wstb (s : State) (l : List Nat) : (s.setEntries l).wstb = s.wstb := rfl
@[simp] theorem State.setEntries_tx (s : State) (l : List Nat) : (s.setEntries l).tx = s.tx := rfl
@[simp] theorem State.setEntries_monitor (s : State) (l : List Nat) : (s.setEntries l).monitor = s.monitor := rfl
@[simp] theorem State.setEntries_fault (s : State) (l : List Nat) : (s.setEntries l).fault = s.fault := rfl
@[simp] theorem State.setEntries_store (s : State) (l : List Nat) : (s.setEntries l).store = s.store := rfl
@[simp] theorem State.setEntries_log (s : State) (l : List Nat) : (s.setEntries l).log = s.log := rfl
@[simp] theorem State.setEntries_inbound (s : State) (l : List Nat) : (s.setEntries l).inbound = s.inbound := rfl
@[simp] theorem State.setEntries_link (s : State) (l : List Nat) : (s.setEntries l).link = s.link := rfl
@[simp] theorem State.setEntries_windows (s : State) (l : List Nat) : (s.setEntries l).windows = s.windows := rfl
@[simp] theorem State.setEntries_bull (s : State) (l : List Nat) : (s.setEntries l).bull = s.bull := rfl
@[simp] theorem State.setEntries_own (s : State) (l : List Nat) : (s.setEntries l).own = s.own := rfl
@[simp] theorem State.setEntries_cycle (s : State) (l : List Nat) : (s.setEntries l).cycle = s.cycle := rfl
@[simp] theorem State.setEntries_frameBuf (s : State) (l : List Nat) : (s.setEntries l).frameBuf = s.frameBuf := rfl
@[simp] theorem State.setEntries_heard (s : State) (l : List Nat) : (s.setEntries l).heard = s.heard := rfl
@[simp] theorem State.setEntries_heardCounts (s : State) (l : List Nat) : (s.setEntries l).heardCounts = s.heardCounts := rfl
@[simp] theorem State.setEntries_silence (s : State) (l : List Nat) : (s.setEntries l).silence = s.silence := rfl
@[simp] theorem State.setEntries_ports (s : State) (l : List Nat) : (s.setEntries l).ports = s.ports := rfl
@[simp] theorem State.setEntries_alarm (s : State) (l : List Nat) : (s.setEntries l).alarm = s.alarm := rfl
@[simp] theorem State.setEntries_signals (s : State) (l : List Nat) : (s.setEntries l).signals = s.signals := rfl
@[simp] theorem State.setEntries_freeCount (s : State) (l : List Nat) : (s.setEntries l).freeCount = s.freeCount := rfl
@[simp] theorem State.setEntries_pending (s : State) (l : List Nat) : (s.setEntries l).pending = s.pending := rfl

/-! ## setTimer -/

@[simp] theorem State.setTimer_supply (s : State) (t : Option CheckTimer) : (s.setTimer t).supply = s.supply := rfl
@[simp] theorem State.setTimer_pins (s : State) (t : Option CheckTimer) : (s.setTimer t).pins = s.pins := rfl
@[simp] theorem State.setTimer_time (s : State) (t : Option CheckTimer) : (s.setTimer t).time = s.time := rfl
@[simp] theorem State.setTimer_position (s : State) (t : Option CheckTimer) : (s.setTimer t).position = s.position := rfl
@[simp] theorem State.setTimer_ident (s : State) (t : Option CheckTimer) : (s.setTimer t).ident = s.ident := rfl
@[simp] theorem State.setTimer_channels (s : State) (t : Option CheckTimer) : (s.setTimer t).channels = s.channels := rfl
@[simp] theorem State.setTimer_trx (s : State) (t : Option CheckTimer) : (s.setTimer t).trx = s.trx := rfl
@[simp] theorem State.setTimer_watchPath (s : State) (t : Option CheckTimer) : (s.setTimer t).watchPath = s.watchPath := rfl
@[simp] theorem State.setTimer_sampler (s : State) (t : Option CheckTimer) : (s.setTimer t).sampler = s.sampler := rfl
@[simp] theorem State.setTimer_scanner (s : State) (t : Option CheckTimer) : (s.setTimer t).scanner = s.scanner := rfl
@[simp] theorem State.setTimer_watch (s : State) (t : Option CheckTimer) : (s.setTimer t).watch = s.watch := rfl
@[simp] theorem State.setTimer_arb (s : State) (t : Option CheckTimer) : (s.setTimer t).arb = s.arb := rfl
@[simp] theorem State.setTimer_tuner (s : State) (t : Option CheckTimer) : (s.setTimer t).tuner = s.tuner := rfl
@[simp] theorem State.setTimer_tstb (s : State) (t : Option CheckTimer) : (s.setTimer t).tstb = s.tstb := rfl
@[simp] theorem State.setTimer_wstb (s : State) (t : Option CheckTimer) : (s.setTimer t).wstb = s.wstb := rfl
@[simp] theorem State.setTimer_tx (s : State) (t : Option CheckTimer) : (s.setTimer t).tx = s.tx := rfl
@[simp] theorem State.setTimer_monitor (s : State) (t : Option CheckTimer) : (s.setTimer t).monitor = s.monitor := rfl
@[simp] theorem State.setTimer_fault (s : State) (t : Option CheckTimer) : (s.setTimer t).fault = s.fault := rfl
@[simp] theorem State.setTimer_store (s : State) (t : Option CheckTimer) : (s.setTimer t).store = s.store := rfl
@[simp] theorem State.setTimer_log (s : State) (t : Option CheckTimer) : (s.setTimer t).log = s.log := rfl
@[simp] theorem State.setTimer_inbound (s : State) (t : Option CheckTimer) : (s.setTimer t).inbound = s.inbound := rfl
@[simp] theorem State.setTimer_link (s : State) (t : Option CheckTimer) : (s.setTimer t).link = s.link := rfl
@[simp] theorem State.setTimer_windows (s : State) (t : Option CheckTimer) : (s.setTimer t).windows = s.windows := rfl
@[simp] theorem State.setTimer_bull (s : State) (t : Option CheckTimer) : (s.setTimer t).bull = s.bull := rfl
@[simp] theorem State.setTimer_own (s : State) (t : Option CheckTimer) : (s.setTimer t).own = s.own := rfl
@[simp] theorem State.setTimer_cycle (s : State) (t : Option CheckTimer) : (s.setTimer t).cycle = s.cycle := rfl
@[simp] theorem State.setTimer_frameBuf (s : State) (t : Option CheckTimer) : (s.setTimer t).frameBuf = s.frameBuf := rfl
@[simp] theorem State.setTimer_heard (s : State) (t : Option CheckTimer) : (s.setTimer t).heard = s.heard := rfl
@[simp] theorem State.setTimer_heardCounts (s : State) (t : Option CheckTimer) : (s.setTimer t).heardCounts = s.heardCounts := rfl
@[simp] theorem State.setTimer_silence (s : State) (t : Option CheckTimer) : (s.setTimer t).silence = s.silence := rfl
@[simp] theorem State.setTimer_ports (s : State) (t : Option CheckTimer) : (s.setTimer t).ports = s.ports := rfl
@[simp] theorem State.setTimer_alarm (s : State) (t : Option CheckTimer) : (s.setTimer t).alarm = s.alarm := rfl
@[simp] theorem State.setTimer_signals (s : State) (t : Option CheckTimer) : (s.setTimer t).signals = s.signals := rfl
@[simp] theorem State.setTimer_freeCount (s : State) (t : Option CheckTimer) : (s.setTimer t).freeCount = s.freeCount := rfl
@[simp] theorem State.setTimer_pending (s : State) (t : Option CheckTimer) : (s.setTimer t).pending = s.pending := rfl

/-! ## setPhase -/

@[simp] theorem State.setPhase_supply (s : State) (ph : Phase) : (s.setPhase ph).supply = s.supply := rfl
@[simp] theorem State.setPhase_pins (s : State) (ph : Phase) : (s.setPhase ph).pins = s.pins := rfl
@[simp] theorem State.setPhase_time (s : State) (ph : Phase) : (s.setPhase ph).time = s.time := rfl
@[simp] theorem State.setPhase_position (s : State) (ph : Phase) : (s.setPhase ph).position = s.position := rfl
@[simp] theorem State.setPhase_ident (s : State) (ph : Phase) : (s.setPhase ph).ident = s.ident := rfl
@[simp] theorem State.setPhase_channels (s : State) (ph : Phase) : (s.setPhase ph).channels = s.channels := rfl
@[simp] theorem State.setPhase_trx (s : State) (ph : Phase) : (s.setPhase ph).trx = s.trx := rfl
@[simp] theorem State.setPhase_watchPath (s : State) (ph : Phase) : (s.setPhase ph).watchPath = s.watchPath := rfl
@[simp] theorem State.setPhase_sampler (s : State) (ph : Phase) : (s.setPhase ph).sampler = s.sampler := rfl
@[simp] theorem State.setPhase_scanner (s : State) (ph : Phase) : (s.setPhase ph).scanner = s.scanner := rfl
@[simp] theorem State.setPhase_watch (s : State) (ph : Phase) : (s.setPhase ph).watch = s.watch := rfl
@[simp] theorem State.setPhase_tuner (s : State) (ph : Phase) : (s.setPhase ph).tuner = s.tuner := rfl
@[simp] theorem State.setPhase_tstb (s : State) (ph : Phase) : (s.setPhase ph).tstb = s.tstb := rfl
@[simp] theorem State.setPhase_wstb (s : State) (ph : Phase) : (s.setPhase ph).wstb = s.wstb := rfl
@[simp] theorem State.setPhase_tx (s : State) (ph : Phase) : (s.setPhase ph).tx = s.tx := rfl
@[simp] theorem State.setPhase_monitor (s : State) (ph : Phase) : (s.setPhase ph).monitor = s.monitor := rfl
@[simp] theorem State.setPhase_fault (s : State) (ph : Phase) : (s.setPhase ph).fault = s.fault := rfl
@[simp] theorem State.setPhase_store (s : State) (ph : Phase) : (s.setPhase ph).store = s.store := rfl
@[simp] theorem State.setPhase_log (s : State) (ph : Phase) : (s.setPhase ph).log = s.log := rfl
@[simp] theorem State.setPhase_queue (s : State) (ph : Phase) : (s.setPhase ph).queue = s.queue := rfl
@[simp] theorem State.setPhase_inbound (s : State) (ph : Phase) : (s.setPhase ph).inbound = s.inbound := rfl
@[simp] theorem State.setPhase_link (s : State) (ph : Phase) : (s.setPhase ph).link = s.link := rfl
@[simp] theorem State.setPhase_windows (s : State) (ph : Phase) : (s.setPhase ph).windows = s.windows := rfl
@[simp] theorem State.setPhase_bull (s : State) (ph : Phase) : (s.setPhase ph).bull = s.bull := rfl
@[simp] theorem State.setPhase_own (s : State) (ph : Phase) : (s.setPhase ph).own = s.own := rfl
@[simp] theorem State.setPhase_cycle (s : State) (ph : Phase) : (s.setPhase ph).cycle = s.cycle := rfl
@[simp] theorem State.setPhase_frameBuf (s : State) (ph : Phase) : (s.setPhase ph).frameBuf = s.frameBuf := rfl
@[simp] theorem State.setPhase_heard (s : State) (ph : Phase) : (s.setPhase ph).heard = s.heard := rfl
@[simp] theorem State.setPhase_heardCounts (s : State) (ph : Phase) : (s.setPhase ph).heardCounts = s.heardCounts := rfl
@[simp] theorem State.setPhase_silence (s : State) (ph : Phase) : (s.setPhase ph).silence = s.silence := rfl
@[simp] theorem State.setPhase_ports (s : State) (ph : Phase) : (s.setPhase ph).ports = s.ports := rfl
@[simp] theorem State.setPhase_alarm (s : State) (ph : Phase) : (s.setPhase ph).alarm = s.alarm := rfl
@[simp] theorem State.setPhase_signals (s : State) (ph : Phase) : (s.setPhase ph).signals = s.signals := rfl
@[simp] theorem State.setPhase_freeCount (s : State) (ph : Phase) : (s.setPhase ph).freeCount = s.freeCount := rfl
@[simp] theorem State.setPhase_pending (s : State) (ph : Phase) : (s.setPhase ph).pending = s.pending := rfl

/-! ## shiftTo -/

@[simp] theorem State.shiftTo_supply (s : State) (b : Bool) : (s.shiftTo b).supply = s.supply := rfl
@[simp] theorem State.shiftTo_pins (s : State) (b : Bool) : (s.shiftTo b).pins = s.pins := rfl
@[simp] theorem State.shiftTo_time (s : State) (b : Bool) : (s.shiftTo b).time = s.time := rfl
@[simp] theorem State.shiftTo_position (s : State) (b : Bool) : (s.shiftTo b).position = s.position := rfl
@[simp] theorem State.shiftTo_ident (s : State) (b : Bool) : (s.shiftTo b).ident = s.ident := rfl
@[simp] theorem State.shiftTo_channels (s : State) (b : Bool) : (s.shiftTo b).channels = s.channels := rfl
@[simp] theorem State.shiftTo_trx (s : State) (b : Bool) : (s.shiftTo b).trx = s.trx := rfl
@[simp] theorem State.shiftTo_watchPath (s : State) (b : Bool) : (s.shiftTo b).watchPath = s.watchPath := rfl
@[simp] theorem State.shiftTo_sampler (s : State) (b : Bool) : (s.shiftTo b).sampler = s.sampler := rfl
@[simp] theorem State.shiftTo_scanner (s : State) (b : Bool) : (s.shiftTo b).scanner = s.scanner := rfl
@[simp] theorem State.shiftTo_watch (s : State) (b : Bool) : (s.shiftTo b).watch = s.watch := rfl
@[simp] theorem State.shiftTo_arb (s : State) (b : Bool) : (s.shiftTo b).arb = s.arb := rfl
@[simp] theorem State.shiftTo_wstb (s : State) (b : Bool) : (s.shiftTo b).wstb = s.wstb := rfl
@[simp] theorem State.shiftTo_tx (s : State) (b : Bool) : (s.shiftTo b).tx = s.tx := rfl
@[simp] theorem State.shiftTo_monitor (s : State) (b : Bool) : (s.shiftTo b).monitor = s.monitor := rfl
@[simp] theorem State.shiftTo_fault (s : State) (b : Bool) : (s.shiftTo b).fault = s.fault := rfl
@[simp] theorem State.shiftTo_store (s : State) (b : Bool) : (s.shiftTo b).store = s.store := rfl
@[simp] theorem State.shiftTo_log (s : State) (b : Bool) : (s.shiftTo b).log = s.log := rfl
@[simp] theorem State.shiftTo_queue (s : State) (b : Bool) : (s.shiftTo b).queue = s.queue := rfl
@[simp] theorem State.shiftTo_inbound (s : State) (b : Bool) : (s.shiftTo b).inbound = s.inbound := rfl
@[simp] theorem State.shiftTo_link (s : State) (b : Bool) : (s.shiftTo b).link = s.link := rfl
@[simp] theorem State.shiftTo_windows (s : State) (b : Bool) : (s.shiftTo b).windows = s.windows := rfl
@[simp] theorem State.shiftTo_bull (s : State) (b : Bool) : (s.shiftTo b).bull = s.bull := rfl
@[simp] theorem State.shiftTo_own (s : State) (b : Bool) : (s.shiftTo b).own = s.own := rfl
@[simp] theorem State.shiftTo_cycle (s : State) (b : Bool) : (s.shiftTo b).cycle = s.cycle := rfl
@[simp] theorem State.shiftTo_frameBuf (s : State) (b : Bool) : (s.shiftTo b).frameBuf = s.frameBuf := rfl
@[simp] theorem State.shiftTo_heard (s : State) (b : Bool) : (s.shiftTo b).heard = s.heard := rfl
@[simp] theorem State.shiftTo_heardCounts (s : State) (b : Bool) : (s.shiftTo b).heardCounts = s.heardCounts := rfl
@[simp] theorem State.shiftTo_silence (s : State) (b : Bool) : (s.shiftTo b).silence = s.silence := rfl
@[simp] theorem State.shiftTo_ports (s : State) (b : Bool) : (s.shiftTo b).ports = s.ports := rfl
@[simp] theorem State.shiftTo_alarm (s : State) (b : Bool) : (s.shiftTo b).alarm = s.alarm := rfl
@[simp] theorem State.shiftTo_signals (s : State) (b : Bool) : (s.shiftTo b).signals = s.signals := rfl
@[simp] theorem State.shiftTo_freeCount (s : State) (b : Bool) : (s.shiftTo b).freeCount = s.freeCount := rfl
@[simp] theorem State.shiftTo_pending (s : State) (b : Bool) : (s.shiftTo b).pending = s.pending := rfl
@[simp] theorem State.shiftTo_freq (s : State) (b : Bool) : (s.shiftTo b).tuner.freq = s.tuner.freq := rfl
@[simp] theorem State.shiftTo_space (s : State) (b : Bool) : (s.shiftTo b).tuner.space = b := rfl

/-! ## shifts -/

@[simp] theorem State.shifts_nil (s : State) : s.shifts [] = s := rfl
@[simp] theorem State.shifts_cons (s : State) (b : Bool) (l : List Bool) : s.shifts (b :: l) = (s.shiftTo b).shifts l := rfl
theorem State.shifts_append (s : State) (k l : List Bool) : s.shifts (k ++ l) = (s.shifts k).shifts l :=
  List.foldl_append

/-- What units passing can do: the shift of the tuning word and its strobes, and nothing else. -/
theorem State.shifts_frame (s : State) (l : List Bool) :
    s.shifts l = { s with tuner := (s.shifts l).tuner, tstb := (s.shifts l).tstb } := by
  induction l generalizing s with
  | nil => rfl
  | cons b l ih => rw [State.shifts_cons, ih]; rfl

/-- The last of the units that pass is the one the tuning word carries; the word's frequency stays. -/
theorem State.shifts_tuner (s : State) (l : List Bool) :
    (s.shifts l).tuner = { s.tuner with space := l.getLast?.getD s.tuner.space } := by
  induction l generalizing s with
  | nil => rfl
  | cons b l ih =>
    rw [State.shifts_cons, ih]
    cases l with
    | nil => rfl
    | cons c l => simp [State.shiftTo, List.getLast?_cons]

/-- One strobe for each unit that changes the shift. -/
theorem State.shifts_strobes (s : State) (l : List Bool) :
    (s.shifts l).tstb = s.tstb + ((s.tuner.space :: l).zip l).countP fun x => decide (x.1 ≠ x.2) := by
  induction l generalizing s with
  | nil => rfl
  | cons b l ih =>
    rw [State.shifts_cons, ih, List.zip_cons_cons, List.countP_cons, State.shiftTo_space]
    simp only [State.shiftTo]
    by_cases h : s.tuner.space = b <;> simp [h] <;> omega

/-! ## The field an update is about -/

@[simp] theorem State.post_signals (s : State) (g : Signal) : (s.post g).signals = s.signals ++ [g] := rfl
@[simp] theorem State.setLink_link (s : State) (l : Link) : (s.setLink l).link = l := rfl
@[simp] theorem State.setBull_bull (s : State) (b : BulletinEngine) : (s.setBull b).bull = b := rfl
@[simp] theorem State.setOwn_own (s : State) (o : OwnAlert) : (s.setOwn o).own = o := rfl
@[simp] theorem State.setEntries_entries (s : State) (l : List Nat) : (s.setEntries l).queue.entries = l := rfl
@[simp] theorem State.setTimer_timer (s : State) (t : Option CheckTimer) : (s.setTimer t).queue.timer = t := rfl
@[simp] theorem State.modChannel_length (s : State) (i : Nat) (f : Channel → Channel) :
    (s.modChannel i f).channels.length = s.channels.length := by simp [State.modChannel]
@[simp] theorem State.modWindow_length (s : State) (i : Nat) (f : Window → Window) :
    (s.modWindow i f).windows.length = s.windows.length := by simp [State.modWindow]
@[simp] theorem State.alarmActive_alarm (s : State) (c : Cause) (b : Bool) :
    (s.alarmActive c b).alarm = s.alarm.setActive c b := rfl
@[simp] theorem State.alarmEvent_alarm (s : State) (c : Cause) : (s.alarmEvent c).alarm = s.alarm.event c := rfl

@[simp] theorem State.port_setPort_self (s : State) (p : Port) (c : PortCtx) : (s.setPort p c).port p = c := by
  cases p <;> rfl

theorem State.port_setPort_other (s : State) (p q : Port) (c : PortCtx) (h : q ≠ p) :
    (s.setPort p c).port q = s.port q := by
  cases p <;> cases q <;> first | rfl | exact absurd rfl h

@[simp] theorem State.port_mapPorts (s : State) (f : Port → PortCtx → PortCtx) (p : Port) :
    (s.mapPorts f).port p = f p (s.port p) := by
  cases p <;> rfl

@[simp] theorem State.path_setPath_self (s : State) (p : Path) (r : RxPath) : (s.setPath p r).path p = r := by
  cases p <;> rfl

end Sys2Proof.Machine
end

