-- ==== Sys2Proof/Laws/Steady.lean ====
section
/-! SUPPORT. What the engines never touch: the steady part of the state, kept by every hand-off. -/
namespace Sys2Proof.Machine

/-! ## Fields the steady part leaves out -/

@[simp] theorem State.steady_with_trx (s : State) (x : RxPath) : ({ s with trx := x } : State).steady = s.steady := rfl
@[simp] theorem State.steady_with_watchPath (s : State) (x : RxPath) : ({ s with watchPath := x } : State).steady = s.steady := rfl
@[simp] theorem State.steady_with_sampler (s : State) (x : Option Conversion) : ({ s with sampler := x } : State).steady = s.steady := rfl
@[simp] theorem State.steady_with_scanner (s : State) (x : Scanner) : ({ s with scanner := x } : State).steady = s.steady := rfl
@[simp] theorem State.steady_with_watch (s : State) (x : WatchRx) : ({ s with watch := x } : State).steady = s.steady := rfl
@[simp] theorem State.steady_with_arb (s : State) (x : Arbiter) : ({ s with arb := x } : State).steady = s.steady := rfl
@[simp] theorem State.steady_with_tuner (s : State) (x : Tuner) : ({ s with tuner := x } : State).steady = s.steady := rfl
@[simp] theorem State.steady_with_tstb (s : State) (x : Nat) : ({ s with tstb := x } : State).steady = s.steady := rfl
@[simp] theorem State.steady_with_wstb (s : State) (x : Nat) : ({ s with wstb := x } : State).steady = s.steady := rfl
@[simp] theorem State.steady_shiftTo (s : State) (b : Bool) : (s.shiftTo b).steady = s.steady := rfl
@[simp] theorem State.steady_shifts (s : State) (l : List Bool) : (s.shifts l).steady = s.steady := by
  rw [State.shifts_frame]; rfl
@[simp] theorem State.steady_with_tx (s : State) (x : TxPath) : ({ s with tx := x } : State).steady = s.steady := rfl
@[simp] theorem State.steady_with_monitor (s : State) (x : KeyState) : ({ s with monitor := x } : State).steady = s.steady := rfl
@[simp] theorem State.steady_with_fault (s : State) (x : FaultRecord) : ({ s with fault := x } : State).steady = s.steady := rfl
@[simp] theorem State.steady_with_queue (s : State) (x : OutQueue) : ({ s with queue := x } : State).steady = s.steady := rfl
@[simp] theorem State.steady_with_inbound (s : State) (x : InboundSide) : ({ s with inbound := x } : State).steady = s.steady := rfl
@[simp] theorem State.steady_with_link (s : State) (x : Link) : ({ s with link := x } : State).steady = s.steady := rfl
@[simp] theorem State.steady_with_bull (s : State) (x : BulletinEngine) : ({ s with bull := x } : State).steady = s.steady := rfl
@[simp] theorem State.steady_with_own (s : State) (x : OwnAlert) : ({ s with own := x } : State).steady = s.steady := rfl
@[simp] theorem State.steady_with_cycle (s : State) (x : Option Cycle) : ({ s with cycle := x } : State).steady = s.steady := rfl
@[simp] theorem State.steady_with_frameBuf (s : State) (x : List Symbol) : ({ s with frameBuf := x } : State).steady = s.steady := rfl
@[simp] theorem State.steady_with_heard (s : State) (x : List Heard) : ({ s with heard := x } : State).steady = s.steady := rfl
@[simp] theorem State.steady_with_heardCounts (s : State) (x : HeardCounts) : ({ s with heardCounts := x } : State).steady = s.steady := rfl
@[simp] theorem State.steady_with_silence (s : State) (x : Silence) : ({ s with silence := x } : State).steady = s.steady := rfl
@[simp] theorem State.steady_with_alarm (s : State) (x : Alarm) : ({ s with alarm := x } : State).steady = s.steady := rfl
@[simp] theorem State.steady_with_signals (s : State) (x : List Signal) : ({ s with signals := x } : State).steady = s.steady := rfl
@[simp] theorem State.steady_with_freeCount (s : State) (x : Nat) : ({ s with freeCount := x } : State).steady = s.steady := rfl

@[simp] theorem State.steady_with_cycleBuf (s : State) (x : Option Cycle) (y : List Symbol) :
    ({ s with cycle := x, frameBuf := y } : State).steady = s.steady := rfl

/-! ## Small updates -/

theorem map_modify_same {α β : Type} (g : α → β) (f : α → α) (h : ∀ x, g (f x) = g x) (l : List α) (i : Nat) :
    (l.modify i f).map g = l.map g := by
  induction l generalizing i with
  | nil => simp
  | cons x xs ih => cases i <;> simp [List.modify_succ_cons, h, ih]

theorem map_map_same {α β : Type} (g : α → β) (f : α → α) (h : ∀ x, g (f x) = g x) (l : List α) :
    (l.map f).map g = l.map g := by simp [h]

theorem State.steady_foldl {α : Type} (f : State → α → State) (h : ∀ s x, (f s x).steady = s.steady) (l : List α) (s : State) :
    (l.foldl f s).steady = s.steady := by
  induction l generalizing s with
  | nil => rfl
  | cons x xs ih => simp [ih, h]

@[simp] theorem State.steady_ite (c : Prop) [Decidable c] (s t : State) :
    (if c then s else t).steady = if c then s.steady else t.steady := by split <;> rfl

@[simp] theorem State.steady_post (s : State) (g : Signal) : (s.post g).steady = s.steady := rfl
@[simp] theorem State.steady_setLink (s : State) (l : Link) : (s.setLink l).steady = s.steady := rfl
@[simp] theorem State.steady_setBull (s : State) (b : BulletinEngine) : (s.setBull b).steady = s.steady := rfl
@[simp] theorem State.steady_setOwn (s : State) (o : OwnAlert) : (s.setOwn o).steady = s.steady := rfl
@[simp] theorem State.steady_setEntries (s : State) (l : List Nat) : (s.setEntries l).steady = s.steady := rfl
@[simp] theorem State.steady_setTimer (s : State) (t : Option CheckTimer) : (s.setTimer t).steady = s.steady := rfl
@[simp] theorem State.steady_drawn (s : State) : s.drawn.steady = s.steady := rfl
@[simp] theorem State.steady_setPhase (s : State) (p : Phase) : (s.setPhase p).steady = s.steady := rfl
@[simp] theorem State.steady_alarmActive (s : State) (c : Cause) (b : Bool) : (s.alarmActive c b).steady = s.steady := rfl
@[simp] theorem State.steady_alarmEvent (s : State) (c : Cause) : (s.alarmEvent c).steady = s.steady := rfl

@[simp] theorem PortCtx.quiet_raise (c : PortCtx) (n : Notice) : (c.raise n).quiet = c.quiet := rfl

@[simp] theorem State.steady_raiseOn (s : State) (n : Notice) (w : Port → Role → Bool) :
    (s.raiseOn n w).steady = s.steady := by
  simp only [State.raiseOn, State.mapPorts, State.steady]
  congr 1 <;> split <;> simp

@[simp] theorem State.steady_raiseAll (s : State) (n : Notice) : (s.raiseAll n).steady = s.steady := by
  simp [State.raiseAll]

@[simp] theorem State.steady_raiseOthers (s : State) (n : Notice) (p : Port) :
    (s.raiseOthers n p).steady = s.steady := by
  simp [State.raiseOthers]

theorem State.steady_modChannel (s : State) (i : Nat) (f : Channel → Channel) (h : ∀ c, (f c).given = c.given) :
    (s.modChannel i f).steady = s.steady := by
  simp [State.steady, State.modChannel, map_modify_same Channel.given f h]

theorem State.steady_modWindow (s : State) (i : Nat) (f : Window → Window) (h : ∀ c, (f c).given = c.given) :
    (s.modWindow i f).steady = s.steady := by
  simp [State.steady, State.modWindow, map_modify_same Window.given f h]

@[simp] theorem State.steady_setPath (s : State) (p : Path) (r : RxPath) : (s.setPath p r).steady = s.steady := by
  cases p <;> rfl

/-! ## Scores and stamps -/

@[simp] theorem Channel.given_scored (c : Channel) (d : Int) : (c.scored d).given = c.given := by
  unfold Channel.scored; split <;> rfl

@[simp] theorem Channel.given_decayed (c : Channel) : c.decayed.given = c.given := by
  unfold Channel.decayed; split <;> rfl

@[simp] theorem State.steady_score (s : State) (i : Nat) (d : Int) : (s.score i d).steady = s.steady :=
  State.steady_modChannel _ _ _ fun c => Channel.given_scored c d

@[simp] theorem State.steady_stampScanned (s : State) (i : Nat) : (s.stampScanned i).steady = s.steady :=
  State.steady_modChannel _ _ _ fun _ => rfl

@[simp] theorem State.steady_stampGood (s : State) (i : Nat) (t : Stamp) : (s.stampGood i t).steady = s.steady :=
  State.steady_modChannel _ _ _ fun _ => rfl

/-! ## Store -/

@[simp] theorem Store.length_setSlot (st : Store) (n : Nat) (r : Option Record) :
    (st.setSlot n r).slots.length = st.slots.length := by simp [Store.setSlot]

@[simp] theorem Store.length_countDeletion (st : Store) (c : DeleteCause) :
    (st.countDeletion c).slots.length = st.slots.length := by cases c <;> rfl

@[simp] theorem Store.length_delete (st : Store) (c : DeleteCause) (n : Nat) :
    (st.delete c n).slots.length = st.slots.length := by
  unfold Store.delete; split <;> simp

@[simp] theorem Store.length_evict (l : List Nat) (st : Store) (a b : Nat) :
    (st.evict a b l).slots.length = st.slots.length := by
  induction l generalizing st with
  | nil => rfl
  | cons x xs ih => unfold Store.evict; split <;> simp [ih]

theorem Store.length_request (st st' : Store) (now : Int) (a b : Nat) (h : st.request now a b = some st') :
    st'.slots.length = st.slots.length := by
  unfold Store.request at h
  simp only at h
  split at h
  · simp only [Option.some.injEq] at h; rw [← h]; simp
  · simp at h

@[simp] theorem Store.length_takePages (st : Store) (k : Nat) : (st.takePages k).2.slots.length = st.slots.length := rfl

@[simp] theorem Store.length_create (st : Store) (r : Record) : (st.create r).2.slots.length = st.slots.length := by
  simp [Store.create]

@[simp] theorem Store.length_modBulletin (st : Store) (n : Nat) (f : Bulletin → Bulletin) :
    (st.modBulletin n f).slots.length = st.slots.length := by
  unfold Store.modBulletin; split <;> simp

/-- A new store of the same size leaves the steady part. -/
theorem State.steady_store (s : State) (st : Store) (h : st.slots.length = s.store.slots.length) :
    ({ s with store := st } : State).steady = s.steady := by simp [State.steady, h]

@[simp] theorem State.steady_modOutbound (s : State) (n : Nat) (f : Outbound → Outbound) :
    (s.modOutbound n f).steady = s.steady := by
  unfold State.modOutbound
  split
  · split
    · exact State.steady_store _ _ (by simp)
    · rfl
    · rfl
  · rfl

@[simp] theorem State.steady_lowTest (s : State) : s.lowTest.steady = s.steady := by
  unfold State.lowTest
  simp only
  split
  · split <;> rfl
  · split
    · rw [State.steady_raiseAll]; rfl
    · rfl

@[simp] theorem State.steady_expirySweep (s : State) : s.expirySweep.steady = s.steady := by
  unfold State.expirySweep
  simp only [State.steady_lowTest]
  refine State.steady_store _ _ ?_
  generalize (List.filter _ s.store.age) = l
  generalize s.store = st
  induction l generalizing st with
  | nil => rfl
  | cons x xs ih => simp [ih]

@[simp] theorem State.steady_partDrop (s : State) : s.partDrop.steady = s.steady := by
  unfold State.partDrop; split
  · rfl
  · simp only [State.steady_lowTest]; rfl

@[simp] theorem State.steady_partOpen (s : State) (k : BulletinKey) (n c : Nat) :
    (s.partOpen k n c).steady = s.steady := by
  unfold State.partOpen
  exact (State.steady_store _ _ rfl).trans (State.steady_partDrop s)

theorem State.steady_partExtend (s t : State) (x : Text) (d : Nat) (h : s.partExtend x d = some t) :
    t.steady = s.steady := by
  unfold State.partExtend at h
  split at h
  · simp at h; rw [h]
  · simp only at h
    split at h
    · simp at h
    · rename_i hr
      simp only [Option.some.injEq] at h; rw [← h]
      simp only [State.steady_lowTest]
      exact State.steady_store _ _ (by simpa using Store.length_request _ _ _ _ _ hr)

@[simp] theorem State.steady_partAttach (s : State) (n : Nat) : (s.partAttach n).steady = s.steady := by
  unfold State.partAttach; split
  · rfl
  · simp only [State.steady_lowTest]; exact State.steady_store _ _ (by simp)

@[simp] theorem State.steady_partReplace (s : State) (n : Nat) : (s.partReplace n).steady = s.steady := by
  unfold State.partReplace; split
  · rfl
  · simp only [State.steady_lowTest]; exact State.steady_store _ _ (by simp)

theorem State.steady_partAttachNew (s t : State) (e : Int) (h : s.partAttachNew e = some t) : t.steady = s.steady := by
  unfold State.partAttachNew at h
  split at h
  · simp at h; rw [h]
  · split at h
    · simp at h
    · rename_i hr
      simp only [Option.some.injEq] at h; rw [← h]
      simp only [State.steady_lowTest]
      exact State.steady_store _ _ (by simpa using Store.length_request _ _ _ _ _ hr)

/-! ## Transceiver -/

@[simp] theorem State.steady_startConversion (s : State) (i : LevelInput) (e : Nat) (c : LevelCause) :
    (s.startConversion i e c).steady = s.steady := by
  unfold State.startConversion; split <;> rfl

@[simp] theorem State.steady_deliverFrame (s : State) (p : Path) (r : FrameRec) (b : Bool) :
    (s.deliverFrame p r b).steady = s.steady := by
  unfold State.deliverFrame
  (repeat' split) <;> simp

@[simp] theorem State.steady_deliverEvent (s : State) (p : Path) (e : Option Claimant → Signal) :
    (s.deliverEvent p e).steady = s.steady := by
  unfold State.deliverEvent
  (repeat' split) <;> simp

@[simp] theorem State.steady_pathBreak (s : State) (p : Path) (b : Bool) : (s.pathBreak p b).steady = s.steady := by
  unfold State.pathBreak
  simp only
  (repeat' split) <;> simp

@[simp] theorem State.steady_watchStepTo (s : State) (i : Nat) : (s.watchStepTo i).steady = s.steady := by
  unfold State.watchStepTo; simp only [State.steady_pathBreak]; rfl

@[simp] theorem State.steady_watchStepAfter (s : State) (o : Option Nat) : (s.watchStepAfter o).steady = s.steady := by
  unfold State.watchStepAfter; split
  · simp
  · rfl

@[simp] theorem State.steady_watchMoveOn (s : State) : s.watchMoveOn.steady = s.steady := by
  unfold State.watchMoveOn; split <;> simp

@[simp] theorem State.steady_blank (s : State) : s.blank.steady = s.steady := by
  unfold State.blank
  simp only
  split
  · simp only [State.steady_watchStepAfter, State.steady_stampScanned, State.steady_pathBreak]; rfl
  · simp only [State.steady_pathBreak]; rfl

@[simp] theorem State.steady_unblank (s : State) : s.unblank.steady = s.steady := rfl

@[simp] theorem State.steady_assertKey (s : State) : s.assertKey.steady = s.steady := by
  unfold State.assertKey
  simp only
  split
  · simp only [State.steady_post, State.steady_blank, State.steady_pathBreak]; rfl
  · simp only [State.steady_blank, State.steady_pathBreak]; rfl

@[simp] theorem State.steady_releaseKey (s : State) : s.releaseKey.steady = s.steady := by
  unfold State.releaseKey; split <;> rfl

@[simp] theorem State.steady_stopPath (s : State) : s.stopPath.steady = s.steady := by
  unfold State.stopPath; simp only; split <;> rfl

@[simp] theorem State.steady_completePath (s : State) (n : Nat) : (s.completePath n).steady = s.steady := by
  unfold State.completePath; simp only
  split
  · simp only [State.steady_post, State.steady_setPhase, State.steady_releaseKey]; rfl
  · simp only [State.steady_setPhase, State.steady_releaseKey]; rfl

@[simp] theorem State.steady_trim (s : State) : s.trim.steady = s.steady := by
  unfold State.trim; (repeat' split) <;> first | rfl | simp

@[simp] theorem State.steady_requestRelease (s : State) : s.requestRelease.steady = s.steady := by
  unfold State.requestRelease; split <;> rfl

@[simp] theorem State.steady_grantTo (s : State) (c : Claimant) : (s.grantTo c).steady = s.steady := by
  unfold State.grantTo; simp only
  split
  · simp only [State.steady_requestRelease, State.steady_post, State.steady_pathBreak]; rfl
  · simp only [State.steady_post, State.steady_pathBreak]; rfl

@[simp] theorem State.steady_endGrant (s : State) : s.endGrant.steady = s.steady := by
  unfold State.endGrant; simp only
  split
  · simp only [State.steady_grantTo]
    exact Eq.trans rfl (State.steady_pathBreak { s with arb := { s.arb with grant := none } } .transceiver true)
  · simp only [State.steady_post, State.steady_pathBreak]; rfl

@[simp] theorem State.steady_claim (s : State) (c : Claimant) : (s.claim c).steady = s.steady := by
  unfold State.claim; simp only
  (repeat' split) <;> first | rfl | (simp only [State.steady_requestRelease, State.steady_grantTo, State.steady_with_arb])

@[simp] theorem State.steady_release (s : State) (c : Claimant) : (s.release c).steady = s.steady := by
  unfold State.release; simp only
  (repeat' split) <;>
    simp only [State.steady_endGrant, State.steady_stopPath, State.steady_releaseKey, State.steady_with_arb]

@[simp] theorem State.steady_revoke (s : State) : s.revoke.steady = s.steady := by
  unfold State.revoke; simp only
  (repeat' split) <;>
    simp only [State.steady_endGrant, State.steady_post, State.steady_stopPath, State.steady_releaseKey,
      State.steady_with_arb]

@[simp] theorem State.steady_tuneTo (s : State) (c : Claimant) (i : Nat) : (s.tuneTo c i).steady = s.steady := by
  unfold State.tuneTo
  (repeat' split) <;> first | rfl | (simp only [State.steady_pathBreak]; rfl)

@[simp] theorem State.steady_txRequest (s : State) (c : Claimant) : (s.txRequest c).steady = s.steady := by
  unfold State.txRequest; simp only
  (repeat' split) <;> first | rfl | simp

@[simp] theorem State.steady_offer (s : State) (c : Claimant) (l : List Symbol) : (s.offer c l).steady = s.steady := by
  unfold State.offer; simp only; split <;> rfl

@[simp] theorem State.steady_keyFault (s : State) (k : KeyFaultKind) : (s.keyFault k).steady = s.steady := by
  unfold State.keyFault; simp only
  have tail : ∀ u : State, ({ u with fault := u.fault.enter ⟨k, s.stamp, s.holder, s.grantChannel⟩ } : State).steady =
      u.steady := fun _ => rfl
  (repeat' split) <;>
    simp only [State.steady_post, State.steady_alarmEvent, State.steady_raiseAll, tail, State.steady_setPhase,
      State.steady_stopPath, State.steady_releaseKey]

@[simp] theorem State.steady_senseRise (s : State) : s.senseRise.steady = s.steady := by
  unfold State.senseRise; split <;> rfl

@[simp] theorem State.steady_senseFall (s : State) : s.senseFall.steady = s.steady := by
  unfold State.senseFall; simp only
  (repeat' split) <;> first | rfl | (simp only [State.steady_assertKey]; rfl)

/-! ## Scanner and TUNE -/

@[simp] theorem State.steady_scanCheck (s : State) : s.scanCheck.steady = s.steady := by
  unfold State.scanCheck
  (repeat' split) <;> first | rfl | (simp only [State.steady_claim]; rfl)

@[simp] theorem State.steady_scanDwell (s : State) (i : Nat) : (s.scanDwell i).steady = s.steady := by
  unfold State.scanDwell; simp only [State.steady_tuneTo]; rfl

@[simp] theorem State.steady_scanEnd (s : State) : s.scanEnd.steady = s.steady := by
  unfold State.scanEnd
  split
  · rfl
  · rename_i i _
    simp only
    have tail : ∀ (u : State) (c : Scanner), ({ u with scanner := c } : State).steady = u.steady := fun _ _ => rfl
    (repeat' split) <;>
      simp only [State.steady_release, State.steady_scanDwell, State.steady_startConversion, State.steady_score,
        State.steady_stampScanned, tail]

@[simp] theorem State.steady_scanScheduledEnd (s : State) : s.scanScheduledEnd.steady = s.steady := by
  unfold State.scanScheduledEnd; split
  · rfl
  · simp

@[simp] theorem State.steady_scanGranted (s : State) : s.scanGranted.steady = s.steady := by
  unfold State.scanGranted; split <;> simp

@[simp] theorem State.steady_scanRelease (s : State) : s.scanRelease.steady = s.steady := by
  unfold State.scanRelease; simp only; split
  · rw [State.steady_scanEnd]; rfl
  · rfl

@[simp] theorem State.steady_scanPhasing (s : State) : s.scanPhasing.steady = s.steady := by
  unfold State.scanPhasing; simp only
  (repeat' split) <;> first | rfl | (rw [State.steady_scanEnd]; rfl)

@[simp] theorem State.steady_scanPhasingGone (s : State) : s.scanPhasingGone.steady = s.steady := by
  unfold State.scanPhasingGone; split <;> simp

@[simp] theorem State.steady_tuneGranted (s : State) : s.tuneGranted.steady = s.steady := by
  unfold State.tuneGranted; (repeat' split) <;> simp

@[simp] theorem State.steady_tuneGateClosed (s : State) : s.tuneGateClosed.steady = s.steady := by
  unfold State.tuneGateClosed; split <;> simp

end Sys2Proof.Machine
end

