-- ==== Sys2Proof/Laws/SteadyEngines.lean ====
section
/-! SUPPORT. No engine touches the steady part of the state, so neither does the working off of hand-offs. -/
set_option linter.unusedSimpArgs false

namespace Sys2Proof.Machine

/-! ## Reception -/

@[simp] theorem State.steady_assemble (s : State) (p : Path) (f : Family) (g : Group) :
    (s.assemble p f g).steady = s.steady := by
  unfold State.assemble
  repeat' first | with_reducible rfl | split | simp only [
    State.steady_setPath, State.steady_deliverFrame, State.steady_ite, ite_self]

@[simp] theorem State.steady_turnAndClear (s : State) (p : Path) (g : Group) :
    (s.turnAndClear p g).steady = s.steady := by
  unfold State.turnAndClear
  repeat' first | with_reducible rfl | split | simp only [
    State.steady_setPath, State.steady_deliverEvent, State.steady_ite, ite_self]

@[simp] theorem State.steady_phasingStep (s : State) (p : Path) (g : Group) :
    (s.phasingStep p g).steady = s.steady := by
  unfold State.phasingStep
  repeat' first | with_reducible rfl | split | simp only [
    State.steady_setPath, State.steady_deliverEvent, State.steady_ite, ite_self]

@[simp] theorem State.steady_searchGroup (s : State) (p : Path) (g : Group) :
    (s.searchGroup p g).steady = s.steady := by
  unfold State.searchGroup
  repeat' first | with_reducible rfl | split | simp only [
    State.steady_setPath, State.steady_phasingStep, State.steady_ite, ite_self]

@[simp] theorem State.steady_loseLock (s : State) (p : Path) : (s.loseLock p).steady = s.steady := by
  unfold State.loseLock
  repeat' first | with_reducible rfl | split | simp only [
    State.steady_pathBreak, State.steady_deliverEvent, State.steady_ite, ite_self]

@[simp] theorem State.steady_lockedGroup (s : State) (p : Path) (g : Group) :
    (s.lockedGroup p g).steady = s.steady := by
  unfold State.lockedGroup
  repeat' first | with_reducible rfl | split | simp only [
    State.steady_setPath, State.steady_loseLock, State.steady_assemble, State.steady_phasingStep,
    State.steady_turnAndClear, State.steady_ite, ite_self]

@[simp] theorem State.steady_receive (s : State) (p : Path) (units : Byte) :
    (s.receive p units).steady = s.steady := by
  unfold State.receive
  repeat' first | with_reducible rfl | split | simp only [
    State.steady_lockedGroup, State.steady_searchGroup, State.steady_post, State.steady_scanPhasingGone,
    State.steady_ite, ite_self]

@[simp] theorem State.steady_receiveAll (s : State) (p : Path) (l : List Byte) :
    (s.receiveAll p l).steady = s.steady :=
  State.steady_foldl _ (fun s u => State.steady_receive s p u) l s

@[simp] theorem State.steady_lineTransition (s : State) (p : Path) (error : Int) (units : Nat) :
    (s.lineTransition p error units).steady = s.steady := by
  unfold State.lineTransition
  repeat' first | with_reducible rfl | split | simp only [
    State.steady_setPath, State.steady_drawn, State.steady_ite, ite_self]

/-! ## Queue and inbound side -/

theorem Haul.given_applied (h : Haul) (o : ReportOutcome) : (h.applied o).given = h.given := by
  cases o <;> rfl

@[simp] theorem State.steady_reportOutcome (s : State) (slot : Nat) (o : ReportOutcome) :
    (s.reportOutcome slot o).steady = s.steady := by
  unfold State.reportOutcome
  split
  · rfl
  · rename_i r _
    rw [State.steady_raiseAll]
    have h : ∀ h : Haul, (if h.number ∈ r.hauls then h.applied o else h).given = h.given := by
      intro h; split
      · exact Haul.given_applied h o
      · rfl
    simp only [State.steady]
    rw [map_map_same Haul.given _ h]

@[simp] theorem State.steady_joinQueue (s : State) (slot : Nat) : (s.joinQueue slot).steady = s.steady := by
  unfold State.joinQueue
  repeat' first | with_reducible rfl | split | simp only [
    State.steady_setEntries, State.steady_ite, ite_self]

@[simp] theorem State.steady_expedite (s : State) (slot : Nat) : (s.expedite slot).steady = s.steady := by
  unfold State.expedite
  repeat' first | with_reducible rfl | split | simp only [
    State.steady_setEntries, State.steady_ite, ite_self]

@[simp] theorem State.steady_leaveQueue (s : State) (slot : Nat) : (s.leaveQueue slot).steady = s.steady := by
  unfold State.leaveQueue
  repeat' first | with_reducible rfl | split | simp only [
    State.steady_setEntries, State.steady_ite, ite_self]

@[simp] theorem State.steady_trafficWaiting (s : State) : s.trafficWaiting.steady = s.steady := by
  unfold State.trafficWaiting
  repeat' first | with_reducible rfl | split | simp only [
    State.steady_post, State.steady_ite, ite_self]

@[simp] theorem State.steady_returnToQueue (s : State) (slot : Nat) : (s.returnToQueue slot).steady = s.steady := by
  unfold State.returnToQueue
  repeat' first | with_reducible rfl | split | simp only [
    State.steady_modOutbound, State.steady_trafficWaiting, State.steady_ite, ite_self]

@[simp] theorem State.steady_failMessage (s : State) (slot : Nat) (why : FailReason) :
    (s.failMessage slot why).steady = s.steady := by
  unfold State.failMessage
  repeat' first | with_reducible rfl | split | simp only [
    State.steady_modOutbound, State.steady_leaveQueue, State.steady_reportOutcome, State.steady_raiseAll,
    State.steady_ite, ite_self]

@[simp] theorem State.steady_deliverMessage (s : State) (slot : Nat) :
    (s.deliverMessage slot).steady = s.steady := by
  unfold State.deliverMessage
  repeat' first | with_reducible rfl | split | simp only [
    State.steady_modOutbound, State.steady_leaveQueue, State.steady_reportOutcome, State.steady_raiseAll,
    State.steady_ite, ite_self]

@[simp] theorem State.steady_chargeEntry (s : State) (why : FailReason) (slot : Nat) :
    (s.chargeEntry why slot).steady = s.steady := by
  unfold State.chargeEntry
  repeat' first | with_reducible rfl | split | simp only [
    State.steady_modOutbound, State.steady_failMessage, State.steady_ite, ite_self]

@[simp] theorem State.steady_attemptFailure (s : State) (why : FailReason) (station : Text) :
    (s.attemptFailure why station).steady = s.steady :=
  State.steady_foldl _ (fun s n => State.steady_chargeEntry s why n) _ s

@[simp] theorem State.steady_checkTest (s : State) (atShip : Bool) : (s.checkTest atShip).steady = s.steady := by
  unfold State.checkTest
  repeat' first | with_reducible rfl | split | simp only [
    State.steady_setTimer, State.steady_trafficWaiting, State.steady_with_queue, State.steady_ite, ite_self]

@[simp] theorem State.steady_attemptEnd (s : State) (station : Text) : (s.attemptEnd station).steady = s.steady := by
  unfold State.attemptEnd
  repeat' first | with_reducible rfl | split | simp only [
    State.steady_checkTest, State.steady_with_queue, State.steady_ite, ite_self]

@[simp] theorem State.steady_attemptStart (s : State) (station : Text) :
    (s.attemptStart station).steady = s.steady := by
  unfold State.attemptStart
  repeat' first | with_reducible rfl | split | simp only [
    State.steady_with_queue, State.steady_ite, ite_self]

@[simp] theorem State.steady_modInbound (s : State) (n : Nat) (f : Inbound → Inbound) :
    (s.modInbound n f).steady = s.steady := by
  unfold State.modInbound
  split
  · exact State.steady_store _ _ (by simp)
  · rfl

@[simp] theorem State.steady_inboundAppend (s : State) (n : Nat) (c : Byte) :
    (s.inboundAppend n c).steady = s.steady := by
  unfold State.inboundAppend
  split
  · rfl
  · rw [State.steady_modInbound]
    exact State.steady_store _ _ (Store.length_takePages _ _)

@[simp] theorem State.steady_raiseInbound (s : State) (who : Addressee) : (s.raiseInbound who).steady = s.steady := by
  unfold State.raiseInbound
  repeat' first | with_reducible rfl | split | simp only [
    State.steady_raiseOn, State.steady_ite, ite_self]

@[simp] theorem State.steady_inboundCreate (s : State) (l : Option FirstLine) :
    (s.inboundCreate l).steady = s.steady := by
  unfold State.inboundCreate
  simp only [State.steady, Store.length_create]

@[simp] theorem State.steady_inboundChar (s : State) (owed : List Nat) (c : Byte) :
    (s.inboundChar owed c).1.steady = s.steady := by
  have fold : ∀ (l : Text) (t : State),
      (l.foldl (fun t c => t.inboundAppend (t.inbound.current.getD 0) c) t).steady = t.steady := fun l t =>
    State.steady_foldl _ (fun s c => State.steady_inboundAppend s _ c) l t
  unfold State.inboundChar
  repeat' first
    | with_reducible rfl
    | split
    | simp only [fold, State.steady_inboundCreate, State.steady_inboundAppend, State.steady_raiseInbound,
        State.steady_modInbound, State.steady_with_inbound]

theorem State.steady_inboundChars (l : Text) (p : State × List Nat) :
    (l.foldl (fun (p : State × List Nat) c => p.1.inboundChar p.2 c) p).1.steady = p.1.steady := by
  induction l generalizing p with
  | nil => rfl
  | cons c l ih => rw [List.foldl_cons, ih, State.steady_inboundChar]

theorem State.steady_inboundOffer (s t : State) (text : Text) (owed : List Nat)
    (h : s.inboundOffer text = some (t, owed)) : t.steady = s.steady := by
  unfold State.inboundOffer at h
  simp only at h
  split at h
  · simp only [Option.some.injEq] at h
    rw [← show _ = t from congrArg Prod.fst h, State.steady_inboundChars]
  · split at h
    · simp at h
    · rename_i hr
      simp only [Option.some.injEq, Prod.mk.injEq] at h
      rw [← h.1, State.steady_lowTest, State.steady_inboundChars]
      exact State.steady_store _ _ (Store.length_request _ _ _ _ _ hr)

@[simp] theorem State.steady_inboundEnd (s : State) : s.inboundEnd.steady = s.steady := by
  unfold State.inboundEnd
  repeat' first | with_reducible rfl | split | simp only [
    State.steady_modInbound, State.steady_raiseInbound, State.steady_with_inbound, State.steady_ite, ite_self]

/-! ## Traffic link -/

@[simp] theorem State.steady_endLink (s : State) (e : LinkEnd) : (s.endLink e).steady = s.steady := by
  unfold State.endLink
  repeat' first | with_reducible rfl | split | simp only [
    State.steady_returnToQueue, State.steady_attemptFailure, State.steady_attemptEnd, State.steady_inboundEnd,
    State.steady_release, State.steady_setLink, State.steady_post, State.steady_ite, ite_self]

@[simp] theorem State.steady_linkTest (s : State) : s.linkTest.steady = s.steady := by
  unfold State.linkTest
  repeat' first | with_reducible rfl | split | simp only [
    State.steady_attemptStart, State.steady_setLink, State.steady_claim, State.steady_ite, ite_self]

@[simp] theorem State.steady_linkTunePosition (s : State) (k : Nat) : (s.linkTunePosition k).steady = s.steady := by
  unfold State.linkTunePosition
  repeat' first | with_reducible rfl | split | simp only [
    State.steady_setLink, State.steady_tuneTo, State.steady_endLink, State.steady_ite, ite_self]

@[simp] theorem State.steady_linkGranted (s : State) : s.linkGranted.steady = s.steady := by
  unfold State.linkGranted
  repeat' first | with_reducible rfl | split | simp only [
    State.steady_setLink, State.steady_linkTunePosition, State.steady_ite, ite_self]

@[simp] theorem State.steady_sendCall (s : State) : s.sendCall.steady = s.steady := by
  unfold State.sendCall
  repeat' first | with_reducible rfl | split | simp only [
    State.steady_setLink, State.steady_txRequest, State.steady_offer, State.steady_ite, ite_self]

@[simp] theorem State.steady_linkSettled (s : State) : s.linkSettled.steady = s.steady := by
  unfold State.linkSettled
  repeat' first | with_reducible rfl | split | simp only [
    State.steady_sendCall, State.steady_ite, ite_self]

@[simp] theorem State.steady_linkTuneRefused (s : State) : s.linkTuneRefused.steady = s.steady := by
  unfold State.linkTuneRefused
  repeat' first | with_reducible rfl | split | simp only [
    State.steady_linkTunePosition, State.steady_ite, ite_self]

@[simp] theorem State.steady_answerExpiry (s : State) : s.answerExpiry.steady = s.steady := by
  unfold State.answerExpiry
  repeat' first | with_reducible rfl | split | simp only [
    State.steady_setLink, State.steady_score, State.steady_sendCall, State.steady_linkTunePosition,
    State.steady_ite, ite_self]

@[simp] theorem State.steady_linkScore (s : State) (r : FrameRec) : (s.linkScore r).steady = s.steady := by
  unfold State.linkScore
  repeat' first | with_reducible rfl | split | simp only [
    State.steady_score, State.steady_ite, ite_self]

@[simp] theorem State.steady_linkFrameIn (s : State) (r : FrameRec) : (s.linkFrameIn r).steady = s.steady := by
  unfold State.linkFrameIn
  repeat' first | with_reducible rfl | split | simp only [
    State.steady_linkScore, State.steady_setLink, State.steady_endLink, State.steady_ite, ite_self]

@[simp] theorem State.steady_linkPhasing (s : State) : s.linkPhasing.steady = s.steady := by
  unfold State.linkPhasing
  repeat' first | with_reducible rfl | split | simp only [
    State.steady_setLink, State.steady_ite, ite_self]

@[simp] theorem State.steady_takeUp (s : State) : s.takeUp.steady = s.steady := by
  unfold State.takeUp
  repeat' first | with_reducible rfl | split | simp only [
    State.steady_modOutbound, State.steady_setLink, State.steady_ite, ite_self]

@[simp] theorem State.steady_addFrames (s : State) (receipts fuel : Nat) :
    (s.addFrames receipts fuel).steady = s.steady := by
  induction fuel generalizing s with
  | zero => rfl
  | succ n ih =>
    unfold State.addFrames
    repeat' first | with_reducible rfl | split | simp only [ih, State.steady_setLink]

@[simp] theorem State.steady_compose (s : State) (noD : Bool) : (s.compose noD).steady = s.steady := by
  unfold State.compose
  repeat' first | with_reducible rfl | split | simp only [
    State.steady_endLink, State.steady_takeUp, State.steady_addFrames, State.steady_setLink,
    State.steady_txRequest, State.steady_offer, State.steady_ite, ite_self]

@[simp] theorem State.steady_linkCompleted (s : State) : s.linkCompleted.steady = s.steady := by
  unfold State.linkCompleted
  repeat' first | with_reducible rfl | split | simp only [
    State.steady_endLink, State.steady_setLink, State.steady_ite, ite_self]

@[simp] theorem State.steady_acknowledge (s : State) (e : Outstanding) : (s.acknowledge e).steady = s.steady := by
  unfold State.acknowledge
  repeat' first | with_reducible rfl | split | simp only [
    State.steady_modOutbound, State.steady_ite, ite_self]

@[simp] theorem State.steady_ackPass (s : State) : s.ackPass.1.steady = s.steady := by
  have fold : ∀ (l : List Outstanding) (t : State), (l.foldl State.acknowledge t).steady = t.steady := fun l t =>
    State.steady_foldl _ State.steady_acknowledge l t
  unfold State.ackPass
  repeat' first | with_reducible rfl | split | simp only [fold, State.steady_setLink]

@[simp] theorem State.steady_takeSequenced (s : State) (r : FrameRec) : (s.takeSequenced r).steady = s.steady := by
  unfold State.takeSequenced
  repeat' first
    | with_reducible rfl
    | split
    | (rename_i h; exact (State.steady_setLink _ _).trans (State.steady_inboundOffer _ _ _ _ h))
    | simp only [State.steady_setLink, State.steady_raiseAll]

@[simp] theorem State.steady_receiptPass (s : State) (replies : List FrameRec) :
    (s.receiptPass replies).steady = s.steady := by
  unfold State.receiptPass
  repeat' first | with_reducible rfl | split | simp only [
    State.steady_deliverMessage, State.steady_setLink, State.steady_modOutbound, State.steady_failMessage,
    State.steady_returnToQueue, State.steady_ite, ite_self]

@[simp] theorem State.steady_coastBurstEnd (s : State) : s.coastBurstEnd.steady = s.steady := by
  have fold : ∀ (l : List FrameRec) (t : State), (l.foldl State.takeSequenced t).steady = t.steady := fun l t =>
    State.steady_foldl _ State.steady_takeSequenced l t
  unfold State.coastBurstEnd
  repeat' first
    | with_reducible rfl
    | split
    | simp only [fold, State.steady_setLink, State.steady_ackPass, State.steady_receiptPass, State.steady_endLink,
        State.steady_compose, State.steady_ite, ite_self]

@[simp] theorem State.steady_phasingExpiry (s : State) : s.phasingExpiry.steady = s.steady := by
  have tail : ∀ u v : State, u.steady = v.steady →
      (if u.link.state = .clearing then if 2 ≤ u.link.silent then u.endLink .cleared else u.compose true
       else if 3 ≤ u.link.silent then u.endLink .linkLost else u.compose true).steady = v.steady := by
    intro u v h
    simp only [State.steady_ite, State.steady_endLink, State.steady_compose, ite_self, h]
  unfold State.phasingExpiry
  split
  · refine tail _ _ ?_
    rw [State.steady_setLink]
    split
    · exact State.steady_score _ _ _
    · rfl
  · rfl

@[simp] theorem State.steady_linkTurn (s : State) : s.linkTurn.steady = s.steady := by
  unfold State.linkTurn
  repeat' first | with_reducible rfl | split | simp only [
    State.steady_setLink, State.steady_compose, State.steady_coastBurstEnd, State.steady_ite, ite_self]

@[simp] theorem State.steady_turnExpiry (s : State) : s.turnExpiry.steady = s.steady := by
  unfold State.turnExpiry
  repeat' first | with_reducible rfl | split | simp only [
    State.steady_linkTurn, State.steady_setLink, State.steady_ite, ite_self]

@[simp] theorem State.steady_linkAbandon (s : State) : s.linkAbandon.steady = s.steady := by
  unfold State.linkAbandon
  repeat' first | with_reducible rfl | split | simp only [
    State.steady_setLink, State.steady_trim, State.steady_endLink, State.steady_ite, ite_self]

@[simp] theorem State.steady_linkCut (s : State) : s.linkCut.steady = s.steady := by
  unfold State.linkCut
  repeat' first | with_reducible rfl | split | simp only [
    State.steady_endLink, State.steady_ite, ite_self]

/-! ## Bulletins -/

@[simp] theorem State.steady_countPart (s : State) (c : PartCount) : (s.countPart c).steady = s.steady := by
  unfold State.countPart
  repeat' first | with_reducible rfl | split | simp only [
    State.steady_setBull, State.steady_ite, ite_self]

@[simp] theorem State.steady_setRecv (s : State) (r : Option Reception) : (s.setRecv r).steady = s.steady := by
  unfold State.setRecv
  repeat' first | with_reducible rfl | split | simp only [
    State.steady_setBull, State.steady_ite, ite_self]

@[simp] theorem State.steady_partStored (s : State) : s.partStored.steady = s.steady := by
  unfold State.partStored
  repeat' first | with_reducible rfl | split | simp only [
    State.steady_countPart, State.steady_raiseAll, State.steady_ite, ite_self]

@[simp] theorem State.steady_disposePart (s : State) (p : OpenPart) (taken : Nat) :
    (s.disposePart p taken).steady = s.steady := by
  unfold State.disposePart
  split
  · simp only [State.steady_countPart, State.steady_partDrop]
  · split
    · split
      · rename_i t h
        have ht := State.steady_partAttachNew _ _ _ h
        simp only [State.steady_ite, State.steady_alarmEvent, State.steady_raiseAll, State.steady_partStored, ht, ite_self]
      · simp only [State.steady_countPart, State.steady_partDrop, State.steady_raiseAll]
    · repeat' first
        | with_reducible rfl
        | split
        | simp only [State.steady_countPart, State.steady_partDrop, State.steady_partStored, State.steady_partAttach,
            State.steady_partReplace]

@[simp] theorem State.steady_closePart (s : State) (addition : Nat) : (s.closePart addition).steady = s.steady := by
  unfold State.closePart
  repeat' first | with_reducible rfl | split | simp only [
    State.steady_store, State.steady_disposePart, State.steady_setRecv, State.steady_ite, ite_self]

@[simp] theorem State.steady_bullClaim (s : State) (i : Nat) : (s.bullClaim i).steady = s.steady := by
  unfold State.bullClaim
  repeat' first | with_reducible rfl | split | simp only [
    State.steady_setBull, State.steady_claim, State.steady_ite, ite_self]

@[simp] theorem State.steady_bullYield (s : State) : s.bullYield.steady = s.steady := by
  unfold State.bullYield
  repeat' first | with_reducible rfl | split | simp only [
    State.steady_claim, State.steady_closePart, State.steady_setBull, State.steady_release, State.steady_ite,
    ite_self]

@[simp] theorem State.steady_bullClaimFirst (s : State) : s.bullClaimFirst.steady = s.steady := by
  unfold State.bullClaimFirst
  repeat' first | with_reducible rfl | split | simp only [
    State.steady_bullClaim, State.steady_ite, ite_self]

@[simp] theorem State.steady_bullReview (s : State) : s.bullReview.steady = s.steady := by
  unfold State.bullReview
  repeat' first
    | with_reducible rfl
    | split
    | (intro _; rfl)
    | rw [State.steady_modWindow]
    | simp only [State.steady_bullClaimFirst, State.steady_bullYield]

@[simp] theorem State.steady_missWindow (s : State) (i : Nat) : (s.missWindow i).steady = s.steady := by
  unfold State.missWindow
  rw [State.steady_raiseOn]
  exact State.steady_modWindow _ _ _ fun _ => rfl

@[simp] theorem State.steady_finishWindow (s : State) (i : Nat) : (s.finishWindow i).steady = s.steady := by
  unfold State.finishWindow
  rw [State.steady_modWindow _ _ Window.toIdle fun _ => rfl]
  simp only [State.steady_ite, State.steady_bullYield, ite_self]

@[simp] theorem State.steady_bullUnserved (s : State) (w : Nat) : (s.bullUnserved w).steady = s.steady := by
  unfold State.bullUnserved
  repeat' first | with_reducible rfl | split | simp only [
    State.steady_bullYield, State.steady_missWindow, State.steady_bullReview, State.steady_ite, ite_self]

@[simp] theorem State.steady_bullGranted (s : State) (c : Claimant) : (s.bullGranted c).steady = s.steady := by
  unfold State.bullGranted
  repeat' first
    | with_reducible rfl
    | split
    | simp only [State.steady_tuneTo, State.steady_bullUnserved]
    | (intro _; rfl)
    | rw [State.steady_modWindow]

@[simp] theorem State.steady_bullSettled (s : State) : s.bullSettled.steady = s.steady := by
  unfold State.bullSettled
  repeat' first | with_reducible rfl | split | simp only [
    State.steady_setRecv, State.steady_ite, ite_self]

@[simp] theorem State.steady_bullTuneRefused (s : State) : s.bullTuneRefused.steady = s.steady := by
  unfold State.bullTuneRefused
  repeat' first | with_reducible rfl | split | simp only [
    State.steady_bullUnserved, State.steady_ite, ite_self]

@[simp] theorem State.steady_bullInterrupted (s : State) : s.bullInterrupted.steady = s.steady := by
  unfold State.bullInterrupted
  split
  · rw [State.steady_bullReview]
    rw [State.steady_modWindow, State.steady_bullYield]
    intro _; rfl
  · rfl

@[simp] theorem State.steady_endWindow (s : State) (minute : Int) (i : Nat) :
    (s.endWindow minute i).steady = s.steady := by
  unfold State.endWindow
  repeat' first | with_reducible rfl | split | simp only [
    State.steady_finishWindow, State.steady_missWindow, State.steady_ite, ite_self]

theorem Window.given_started (w : Window) (t : TimeState) (m : Int) : (w.started t m).given = w.given := by
  unfold Window.started; (repeat' split) <;> rfl

theorem Window.given_dueTest (w : Window) (t : TimeState) (m : Int) : (w.dueTest t m).given = w.given := by
  unfold Window.dueTest; simp only; (repeat' split) <;> rfl

theorem State.steady_windows (s : State) (f : Window → Window) (h : ∀ w, (f w).given = w.given) :
    ({ s with windows := s.windows.map f } : State).steady = s.steady := by
  simp only [State.steady, map_map_same Window.given f h]

@[simp] theorem State.steady_bullMinute (s : State) (minute : Reading) : (s.bullMinute minute).steady = s.steady := by
  unfold State.bullMinute
  split
  · rfl
  · simp only [State.steady_bullReview]
    rw [State.steady_foldl _ (fun s i => State.steady_endWindow s (instant minute) i)]
    exact State.steady_windows _ _ fun w => Window.given_started w _ _

@[simp] theorem State.steady_compareWindow (s : State) (i : Nat) : (s.compareWindow i).steady = s.steady := by
  unfold State.compareWindow
  repeat' first | with_reducible rfl | split | simp only [
    State.steady_finishWindow, State.steady_missWindow, State.steady_ite, ite_self]

@[simp] theorem State.steady_bullDueTest (s : State) : s.bullDueTest.steady = s.steady := by
  unfold State.bullDueTest
  rw [State.steady_bullReview]
  exact State.steady_windows _ _ fun w => Window.given_dueTest w _ _

@[simp] theorem State.steady_bullTimeSet (s : State) : s.bullTimeSet.steady = s.steady := by
  unfold State.bullTimeSet
  rw [State.steady_bullDueTest, State.steady_foldl _ (fun s i => State.steady_compareWindow s i)]

@[simp] theorem State.steady_bullUnset (s : State) : s.bullUnset.steady = s.steady := by
  unfold State.bullUnset
  rw [State.steady_bullReview]
  have h : s.bullYield.steady.windows = s.steady.windows := by rw [State.steady_bullYield]
  rw [← State.steady_bullYield s]
  simp only [State.steady] at h ⊢
  rw [map_map_same Window.given Window.toIdle fun _ => rfl, h]

@[simp] theorem State.steady_bullStart (s : State) : s.bullStart.steady = s.steady := by
  unfold State.bullStart
  repeat' first | with_reducible rfl | split | simp only [
    State.steady_bullDueTest, State.steady_ite, ite_self]

@[simp] theorem State.steady_bullHeader (s : State) (w : Nat) (r : FrameRec) :
    (s.bullHeader w r).steady = s.steady := by
  unfold State.bullHeader
  repeat' first | with_reducible rfl | split | simp only [
    State.steady_store, State.steady_countPart, State.steady_partOpen, State.steady_setRecv, State.steady_ite,
    ite_self]

@[simp] theorem State.steady_bullBlock (s : State) (expected taken : Nat) (r : FrameRec) :
    (s.bullBlock expected taken r).steady = s.steady := by
  unfold State.bullBlock
  repeat' first
    | with_reducible rfl
    | split
    | (rename_i h; exact (State.steady_setRecv _ _).trans (State.steady_partExtend _ _ _ _ h))
    | simp only [State.steady_countPart, State.steady_setRecv, State.steady_partDrop, State.steady_raiseAll]

@[simp] theorem State.steady_bullScore (s : State) (w : Nat) (r : FrameRec) :
    (s.bullScore w r).steady = s.steady := by
  unfold State.bullScore
  repeat' first | with_reducible rfl | split | simp only [
    State.steady_score, State.steady_ite, ite_self]

@[simp] theorem State.steady_bullFrame (s : State) (r : FrameRec) : (s.bullFrame r).steady = s.steady := by
  unfold State.bullFrame
  repeat' first | with_reducible rfl | split | simp only [
    State.steady_bullScore, State.steady_bullBlock, State.steady_closePart, State.steady_bullHeader,
    State.steady_ite, ite_self]

/-! ## Distress -/

@[simp] theorem State.steady_setOwnState (s : State) (st : AlertState) : (s.setOwnState st).steady = s.steady := by
  unfold State.setOwnState
  repeat' first | with_reducible rfl | split | simp only [
    State.steady_setOwn, State.steady_raiseAll, State.steady_alarmActive, State.steady_post,
    State.steady_linkTest, State.steady_ite, ite_self]

@[simp] theorem State.steady_cycleTune (s : State) (c : Cycle) (pos : Nat) :
    (s.cycleTune c pos).steady = s.steady := by
  unfold State.cycleTune
  repeat' first | with_reducible rfl | split | simp only [
    State.steady_tuneTo, State.steady_with_cycle, State.steady_ite, ite_self]

@[simp] theorem State.steady_beginCycle (s : State) (k : CycleKind) : (s.beginCycle k).steady = s.steady := by
  unfold State.beginCycle
  repeat' first | with_reducible rfl | split | simp only [
    State.steady_setOwn, State.steady_raiseAll, State.steady_release, State.steady_cycleTune, State.steady_claim,
    State.steady_with_cycle, State.steady_with_frameBuf, State.steady_with_cycleBuf, State.steady_ite, ite_self]

@[simp] theorem State.steady_callCycle (s : State) (k : CycleKind) : (s.callCycle k).steady = s.steady := by
  unfold State.callCycle
  repeat' first | with_reducible rfl | split | simp only [
    State.steady_beginCycle, State.steady_with_cycle, State.steady_ite, ite_self]

@[simp] theorem State.steady_endCycle (s : State) (c : Cycle) : (s.endCycle c).steady = s.steady := by
  unfold State.endCycle
  repeat' first | with_reducible rfl | split | simp only [
    State.steady_release, State.steady_setOwnState, State.steady_setOwn, State.steady_with_cycle,
    State.steady_with_frameBuf, State.steady_with_cycleBuf, State.steady_ite, ite_self]

@[simp] theorem State.steady_nextChannel (s : State) (c : Cycle) : (s.nextChannel c).steady = s.steady := by
  unfold State.nextChannel
  repeat' first | with_reducible rfl | split | simp only [
    State.steady_beginCycle, State.steady_endCycle, State.steady_cycleTune, State.steady_ite, ite_self]

@[simp] theorem State.steady_cycleGranted (s : State) : s.cycleGranted.steady = s.steady := by
  unfold State.cycleGranted
  repeat' first | with_reducible rfl | split | simp only [
    State.steady_cycleTune, State.steady_ite, ite_self]

@[simp] theorem State.steady_cycleSettled (s : State) : s.cycleSettled.steady = s.steady := by
  unfold State.cycleSettled
  repeat' first | with_reducible rfl | split | simp only [
    State.steady_txRequest, State.steady_ite, ite_self]

@[simp] theorem State.steady_cycleKeyed (s : State) : s.cycleKeyed.steady = s.steady := by
  unfold State.cycleKeyed
  repeat' first | with_reducible rfl | split | simp only [
    State.steady_offer, State.steady_with_cycle, State.steady_ite, ite_self]

@[simp] theorem State.steady_channelDone (s : State) : s.channelDone.steady = s.steady := by
  unfold State.channelDone
  repeat' first | with_reducible rfl | split | simp only [
    State.steady_nextChannel, State.steady_ite, ite_self]

@[simp] theorem State.steady_stopAlertCycle (s : State) : s.stopAlertCycle.steady = s.steady := by
  unfold State.stopAlertCycle
  repeat' first | with_reducible rfl | split | simp only [
    State.steady_endCycle, State.steady_with_cycle, State.steady_ite, ite_self]

@[simp] theorem State.steady_newAlert (s : State) (nature : Byte) : (s.newAlert nature).steady = s.steady := by
  unfold State.newAlert
  repeat' first | with_reducible rfl | split | simp only [
    State.steady_setOwn, State.steady_setOwnState, State.steady_callCycle, State.steady_ite, ite_self]

@[simp] theorem State.steady_keyPress (s : State) : s.keyPress.steady = s.steady := by
  unfold State.keyPress
  repeat' first | with_reducible rfl | split | simp only [
    State.steady_setOwn, State.steady_setOwnState, State.steady_ite, ite_self]

@[simp] theorem State.steady_keyRelease (s : State) : s.keyRelease.steady = s.steady := by
  unfold State.keyRelease
  repeat' first | with_reducible rfl | split | simp only [
    State.steady_setOwn, State.steady_setOwnState, State.steady_ite, ite_self]

@[simp] theorem State.steady_keyHoldExpiry (s : State) : s.keyHoldExpiry.steady = s.steady := by
  unfold State.keyHoldExpiry
  repeat' first | with_reducible rfl | split | simp only [
    State.steady_newAlert, State.steady_ite, ite_self]

@[simp] theorem State.steady_repeatExpiry (s : State) : s.repeatExpiry.steady = s.steady := by
  unfold State.repeatExpiry
  repeat' first | with_reducible rfl | split | simp only [
    State.steady_setOwn, State.steady_beginCycle, State.steady_with_cycle, State.steady_ite, ite_self]

@[simp] theorem State.steady_cancelReturn (s : State) : s.cancelReturn.steady = s.steady := by
  unfold State.cancelReturn
  repeat' first | with_reducible rfl | split | simp only [
    State.steady_setOwn, State.steady_setOwnState, State.steady_ite, ite_self]

@[simp] theorem State.steady_cancelWindowExpiry (s : State) : s.cancelWindowExpiry.steady = s.steady := by
  unfold State.cancelWindowExpiry
  repeat' first | with_reducible rfl | split | simp only [
    State.steady_cancelReturn, State.steady_beginCycle, State.steady_ite, ite_self]

@[simp] theorem State.steady_cancelRetryExpiry (s : State) : s.cancelRetryExpiry.steady = s.steady := by
  unfold State.cancelRetryExpiry
  repeat' first | with_reducible rfl | split | simp only [
    State.steady_setOwn, State.steady_beginCycle, State.steady_ite, ite_self]

@[simp] theorem State.steady_testReplyExpiry (s : State) : s.testReplyExpiry.steady = s.steady := by
  unfold State.testReplyExpiry
  repeat' first | with_reducible rfl | split | simp only [
    State.steady_setOwn, State.steady_ite, ite_self]

@[simp] theorem State.steady_acknowledgeOwn (s : State) (coast : Text) :
    (s.acknowledgeOwn coast).steady = s.steady := by
  unfold State.acknowledgeOwn
  repeat' first | with_reducible rfl | split | simp only [
    State.steady_setOwn, State.steady_setOwnState, State.steady_stopAlertCycle, State.steady_raiseAll,
    State.steady_ite, ite_self]

@[simp] theorem State.steady_testReply (s : State) (coast : Text) : (s.testReply coast).steady = s.steady := by
  unfold State.testReply
  repeat' first | with_reducible rfl | split | simp only [
    State.steady_setOwn, State.steady_raiseAll, State.steady_ite, ite_self]

@[simp] theorem State.steady_hear (s : State) (kind : HeardKind) (n : HeardNews) (t : Stamp) :
    (s.hear kind n t).steady = s.steady := by
  unfold State.hear
  repeat' first | with_reducible rfl | split | simp only [
    State.steady_raiseAll, State.steady_alarmEvent, State.steady_with_heard, State.steady_with_heardCounts,
    State.steady_ite, ite_self]

@[simp] theorem State.steady_silenceOrder (s : State) (coast : Text) : (s.silenceOrder coast).steady = s.steady := by
  unfold State.silenceOrder
  repeat' first | with_reducible rfl | split | simp only [
    State.steady_raiseAll, State.steady_post, State.steady_with_silence, State.steady_ite, ite_self]

@[simp] theorem State.steady_silenceEnd (s : State) : s.silenceEnd.steady = s.steady := by
  unfold State.silenceEnd
  repeat' first | with_reducible rfl | split | simp only [
    State.steady_raiseAll, State.steady_post, State.steady_linkTest, State.steady_with_silence, State.steady_ite,
    ite_self]

@[simp] theorem State.steady_silenceResume (s : State) (coast : Text) :
    (s.silenceResume coast).steady = s.steady := by
  unfold State.silenceResume
  repeat' first | with_reducible rfl | split | simp only [
    State.steady_silenceEnd, State.steady_ite, ite_self]

@[simp] theorem State.steady_silenceExpiry (s : State) : s.silenceExpiry.steady = s.steady := by
  unfold State.silenceExpiry
  repeat' first | with_reducible rfl | split | simp only [
    State.steady_silenceEnd, State.steady_ite, ite_self]

@[simp] theorem State.steady_testHeard (s : State) : s.testHeard.steady = s.steady := by
  unfold State.testHeard
  repeat' first | with_reducible rfl | split | simp only [
    State.steady_with_heardCounts, State.steady_ite, ite_self]

@[simp] theorem State.steady_malformed (s : State) : s.malformed.steady = s.steady := by
  unfold State.malformed
  repeat' first | with_reducible rfl | split | simp only [
    State.steady_with_heardCounts, State.steady_ite, ite_self]

@[simp] theorem State.steady_alertMsg (s : State) (m : AlertMsg) (t : Stamp) :
    (s.alertMsg m t).steady = s.steady := by
  unfold State.alertMsg
  repeat' first | with_reducible rfl | split | simp only [
    State.steady_hear, State.steady_testHeard, State.steady_testReply, State.steady_acknowledgeOwn,
    State.steady_silenceOrder, State.steady_silenceResume, State.steady_ite, ite_self]

@[simp] theorem State.steady_distressFrame (s : State) (r : FrameRec) : (s.distressFrame r).steady = s.steady := by
  unfold State.distressFrame
  repeat' first | with_reducible rfl | split | simp only [
    State.steady_alertMsg, State.steady_malformed, State.steady_ite, ite_self]

/-! ## Hand-offs -/

@[simp] theorem State.steady_onGranted (s : State) (c : Claimant) : (s.onGranted c).steady = s.steady := by
  unfold State.onGranted
  repeat' first | with_reducible rfl | split | simp only [
    State.steady_cycleGranted, State.steady_bullGranted, State.steady_linkGranted, State.steady_tuneGranted,
    State.steady_scanGranted, State.steady_ite, ite_self]

@[simp] theorem State.steady_onSettled (s : State) (c : Claimant) : (s.onSettled c).steady = s.steady := by
  unfold State.onSettled
  repeat' first | with_reducible rfl | split | simp only [
    State.steady_cycleSettled, State.steady_bullSettled, State.steady_linkSettled, State.steady_txRequest,
    State.steady_ite, ite_self]

@[simp] theorem State.steady_onTuneRefused (s : State) (c : Claimant) : (s.onTuneRefused c).steady = s.steady := by
  unfold State.onTuneRefused
  repeat' first | with_reducible rfl | split | simp only [
    State.steady_channelDone, State.steady_bullTuneRefused, State.steady_linkTuneRefused, State.steady_release,
    State.steady_ite, ite_self]

@[simp] theorem State.steady_onBlocked (s : State) (c : Claimant) : (s.onBlocked c).steady = s.steady := by
  unfold State.onBlocked
  repeat' first | with_reducible rfl | split | simp only [
    State.steady_channelDone, State.steady_linkAbandon, State.steady_release, State.steady_ite, ite_self]

@[simp] theorem State.steady_onKeyed (s : State) (c : Claimant) : (s.onKeyed c).steady = s.steady := by
  unfold State.onKeyed
  repeat' first | with_reducible rfl | split | simp only [
    State.steady_cycleKeyed, State.steady_ite, ite_self]

@[simp] theorem State.steady_onCompleted (s : State) (c : Claimant) : (s.onCompleted c).steady = s.steady := by
  unfold State.onCompleted
  repeat' first | with_reducible rfl | split | simp only [
    State.steady_channelDone, State.steady_linkCompleted, State.steady_ite, ite_self]

@[simp] theorem State.steady_onKeyFault (s : State) (c : Claimant) : (s.onKeyFault c).steady = s.steady := by
  unfold State.onKeyFault
  repeat' first | with_reducible rfl | split | simp only [
    State.steady_channelDone, State.steady_linkCut, State.steady_release, State.steady_ite, ite_self]

@[simp] theorem State.steady_onReleaseRequest (s : State) (c : Claimant) :
    (s.onReleaseRequest c).steady = s.steady := by
  unfold State.onReleaseRequest
  repeat' first | with_reducible rfl | split | simp only [
    State.steady_bullInterrupted, State.steady_linkAbandon, State.steady_release, State.steady_scanRelease,
    State.steady_ite, ite_self]

@[simp] theorem State.steady_onRevoked (s : State) (c : Claimant) : (s.onRevoked c).steady = s.steady := by
  unfold State.onRevoked
  repeat' first | with_reducible rfl | split | simp only [
    State.steady_bullInterrupted, State.steady_linkCut, State.steady_with_scanner, State.steady_ite, ite_self]

@[simp] theorem State.steady_onFrame (s : State) (p : Path) (h : Option Claimant) (r : FrameRec) :
    (s.onFrame p h r).steady = s.steady := by
  unfold State.onFrame
  repeat' first | with_reducible rfl | split | simp only [
    State.steady_distressFrame, State.steady_watchMoveOn, State.steady_linkFrameIn, State.steady_bullFrame,
    State.steady_ite, ite_self]

@[simp] theorem State.steady_onPhasing (s : State) (p : Path) (h : Option Claimant) :
    (s.onPhasing p h).steady = s.steady := by
  unfold State.onPhasing
  repeat' first | with_reducible rfl | split | simp only [
    State.steady_linkPhasing, State.steady_scanPhasing, State.steady_with_watch, State.steady_ite, ite_self]

@[simp] theorem State.steady_onTurn (s : State) (p : Path) (h : Option Claimant) :
    (s.onTurn p h).steady = s.steady := by
  unfold State.onTurn
  repeat' first | with_reducible rfl | split | simp only [
    State.steady_linkTurn, State.steady_ite, ite_self]

@[simp] theorem State.steady_onClear (s : State) (p : Path) (h : Option Claimant) :
    (s.onClear p h).steady = s.steady := by
  unfold State.onClear
  repeat' first | with_reducible rfl | split | simp only [
    State.steady_closePart, State.steady_ite, ite_self]

@[simp] theorem State.steady_onLockLost (s : State) (h : Option Claimant) : (s.onLockLost h).steady = s.steady := by
  unfold State.onLockLost
  repeat' first | with_reducible rfl | split | simp only [
    State.steady_closePart, State.steady_ite, ite_self]

@[simp] theorem State.steady_handle (s : State) (g : Signal) : (s.handle g).steady = s.steady := by
  unfold State.handle
  repeat' first | with_reducible rfl | split | simp only [
    State.steady_onGranted, State.steady_onSettled, State.steady_onTuneRefused, State.steady_onBlocked,
    State.steady_onKeyed, State.steady_onCompleted, State.steady_keyFault, State.steady_onKeyFault,
    State.steady_onReleaseRequest, State.steady_onRevoked, State.steady_onFrame, State.steady_onPhasing,
    State.steady_onTurn, State.steady_onClear, State.steady_onLockLost, State.steady_scanPhasingGone,
    State.steady_scanCheck, State.steady_linkAbandon, State.steady_tuneGateClosed, State.steady_linkTest,
    State.steady_ite, ite_self]

@[simp] theorem State.steady_drain (fuel : Nat) (s : State) : (s.drain fuel).steady = s.steady := by
  induction fuel generalizing s with
  | zero => rfl
  | succ n ih =>
    unfold State.drain
    split
    · rfl
    · rw [ih, State.steady_handle, State.steady_with_signals]

@[simp] theorem State.steady_settle (s : State) : s.settle.steady = s.steady := State.steady_drain _ s

end Sys2Proof.Machine
end

