-- ==== Sys2Proof/Laws/Handoff.lean ====
section
/-! SUPPORT. What the working off of hand-offs leaves: nothing waiting, nothing steady changed, and no change
at all where nothing waited. -/
namespace Sys2Proof.Machine

@[simp] theorem State.drain_signals (fuel : Nat) (s : State) : (s.drain fuel).signals = [] := by
  induction fuel generalizing s with
  | zero => rfl
  | succ n ih =>
    unfold State.drain
    split
    · assumption
    · exact ih _

/-- After a step nothing waits. -/
@[simp] theorem State.settle_signals (s : State) : s.settle.signals = [] := State.drain_signals _ s

theorem State.settle_atRest (s : State) : s.settle.atRest := State.settle_signals s

theorem State.drain_of_atRest (fuel : Nat) (s : State) (h : s.signals = []) : s.drain fuel = s := by
  cases fuel with
  | zero => unfold State.drain; rw [← h]
  | succ n => unfold State.drain; rw [h]

/-- Where nothing waits, settling changes nothing. -/
theorem State.settle_of_atRest (s : State) (h : s.signals = []) : s.settle = s := State.drain_of_atRest _ s h

/-- One hand-off taken off the front. -/
theorem State.drain_cons (fuel : Nat) (s : State) (g : Signal) (rest : List Signal) (h : s.signals = g :: rest) :
    s.drain (fuel + 1) = State.drain fuel ({ s with signals := rest }.handle g) := by
  rw [State.drain, h]

/-- A step that posts one hand-off from rest: it is taken, and then what it hands on. -/
theorem State.settle_post (s : State) (g : Signal) (h : s.signals = []) :
    (s.post g).settle = ({ s with signals := [] }.handle g).drain 4095 :=
  State.drain_cons 4095 (s.post g) g [] (by simp [State.post, h])

/-! ## Fields of the steady part -/

theorem State.supply_of_steady {s t : State} (h : s.steady = t.steady) : s.supply = t.supply := congrArg Steady.supply h
theorem State.pins_of_steady {s t : State} (h : s.steady = t.steady) : s.pins = t.pins := congrArg Steady.pins h
theorem State.time_of_steady {s t : State} (h : s.steady = t.steady) : s.time = t.time := congrArg Steady.time h
theorem State.position_of_steady {s t : State} (h : s.steady = t.steady) : s.position = t.position :=
  congrArg Steady.position h
theorem State.ident_of_steady {s t : State} (h : s.steady = t.steady) : s.ident = t.ident := congrArg Steady.ident h
theorem State.pending_of_steady {s t : State} (h : s.steady = t.steady) : s.pending = t.pending := congrArg Steady.pending h
theorem State.given_of_steady {s t : State} (h : s.steady = t.steady) :
    s.channels.map Channel.given = t.channels.map Channel.given := congrArg Steady.channels h
theorem State.windows_of_steady {s t : State} (h : s.steady = t.steady) :
    s.windows.map Window.given = t.windows.map Window.given := congrArg Steady.windows h
theorem State.hauls_of_steady {s t : State} (h : s.steady = t.steady) :
    s.log.hauls.map Haul.given = t.log.hauls.map Haul.given := congrArg Steady.hauls h
theorem State.totals_of_steady {s t : State} (h : s.steady = t.steady) : s.log.totals = t.log.totals :=
  congrArg Steady.totals h
theorem State.next_of_steady {s t : State} (h : s.steady = t.steady) : s.log.next = t.log.next := congrArg Steady.next h
theorem State.slots_of_steady {s t : State} (h : s.steady = t.steady) :
    s.store.slots.length = t.store.slots.length := congrArg Steady.slots h
theorem State.quiet_of_steady {s t : State} (h : s.steady = t.steady) (p : Port) : (s.port p).quiet = (t.port p).quiet := by
  cases p
  · exact congrArg Steady.a h
  · exact congrArg Steady.b h
  · exact congrArg Steady.c h

@[simp] theorem State.settle_supply (s : State) : s.settle.supply = s.supply := State.supply_of_steady (State.steady_settle s)
@[simp] theorem State.settle_pins (s : State) : s.settle.pins = s.pins := State.pins_of_steady (State.steady_settle s)
@[simp] theorem State.settle_time (s : State) : s.settle.time = s.time := State.time_of_steady (State.steady_settle s)
@[simp] theorem State.settle_position (s : State) : s.settle.position = s.position :=
  State.position_of_steady (State.steady_settle s)
@[simp] theorem State.settle_ident (s : State) : s.settle.ident = s.ident := State.ident_of_steady (State.steady_settle s)
@[simp] theorem State.settle_pending (s : State) : s.settle.pending = s.pending :=
  State.pending_of_steady (State.steady_settle s)
@[simp] theorem State.settle_quiet (s : State) (p : Port) : (s.settle.port p).quiet = (s.port p).quiet :=
  State.quiet_of_steady (State.steady_settle s) p
@[simp] theorem State.settle_running (s : State) : s.settle.running = s.running := by simp [State.running]

theorem PortCtx.hold_of_quiet {c d : PortCtx} (h : c.quiet = d.quiet) : c.hold = d.hold := by
  simpa [PortCtx.quiet] using congrArg (·.hold) h
theorem PortCtx.overrun_of_quiet {c d : PortCtx} (h : c.quiet = d.quiet) : c.overrun = d.overrun := by
  simpa [PortCtx.quiet] using congrArg (·.overrun) h
theorem PortCtx.role_of_quiet {c d : PortCtx} (h : c.quiet = d.quiet) : c.role = d.role := by
  simpa [PortCtx.quiet] using congrArg (·.role) h
theorem PortCtx.mask_of_quiet {c d : PortCtx} (h : c.quiet = d.quiet) : c.mask = d.mask := by
  simpa [PortCtx.quiet] using congrArg (·.mask) h

@[simp] theorem State.settle_overrun (s : State) (p : Port) : (s.settle.port p).overrun = (s.port p).overrun :=
  PortCtx.overrun_of_quiet (State.settle_quiet s p)
@[simp] theorem State.settle_hold (s : State) (p : Port) : (s.settle.port p).hold = (s.port p).hold :=
  PortCtx.hold_of_quiet (State.settle_quiet s p)

/-! ## A unit on an empty queue -/

/-- What the passing of a unit can do: the unit, the shift of the tuning word and its strobe, and nothing else. -/
theorem State.unitEnd_frame (s : State) :
    s.unitEnd = { s with tx := s.unitEnd.tx, tuner := s.unitEnd.tuner, tstb := s.unitEnd.tstb } := by
  unfold State.unitEnd State.shiftTo
  split <;> rfl

theorem State.unitEnd_still (s : State) (h : s.running = false ∨ s.sending = false ∨ 7 ≤ s.tx.unit) : s.unitEnd = s := by
  unfold State.unitEnd
  rw [if_neg]
  rintro ⟨hr, hs, hu⟩
  rcases h with h | h | h
  · rw [h] at hr; cases hr
  · rw [h] at hs; cases hs
  · omega

theorem State.unitEnd_next (s : State) (hr : s.running = true) (hs : s.sending = true) (hu : s.tx.unit < 7) :
    s.unitEnd = { s with tx := { s.tx with unit := s.tx.unit + 1 } }.shiftTo
      (TxPath.spaceUnit { s.tx with unit := s.tx.unit + 1 }) := by
  unfold State.unitEnd
  rw [if_pos ⟨hr, hs, hu⟩]

end Sys2Proof.Machine
end

