-- ==== Sys2Proof/Laws/Console.lean ====
section
/-! SUPPORT. What taking a command can do: one lemma for each way through `command`, and what a response
changes. -/
namespace Sys2Proof.Machine

theorem command_of_admits (s : State) (p : Port) (t : Tag) (n : Nat) (act : State → Answer) (h : s.admits p t) :
    command p t n act s = .next (s.carryOut p act) := by
  obtain ⟨_, hr, hs, hp⟩ := h
  simp [command, State.command, hr, hs, hp]

/-- A command whose rule hands nothing on. -/
theorem State.carryOut_still (s : State) (p : Port) (act : State → Answer) (h : (act s).state.signals = []) :
    s.carryOut p act = (act s).state.respond p (act s).status ((act s).data (act s).state) := by
  simp only [State.carryOut, State.settle_of_atRest _ h]

theorem State.carryOut_refuse (s : State) (p : Port) (st : Status) (h : s.signals = []) :
    (s.carryOut p fun s => refuse s st) = s.respond p st [] :=
  State.carryOut_still s p _ h

theorem command_refused (s : State) (p : Port) (t : Tag) (n : Nat) (act : State → Answer) (st : Status)
    (h : s.admits p t) (ha : act s = refuse s st) : command p t n act s = .next (s.respond p st []) := by
  rw [command_of_admits s p t n act h]
  have : s.carryOut p act = (act s).state.respond p (act s).status ((act s).data (act s).state) := by
    apply State.carryOut_still
    rw [ha]; exact h.1
  rw [this, ha]; rfl

theorem command_role (s : State) (p : Port) (t : Tag) (n : Nat) (act : State → Answer) (h : s.signals = [])
    (hr : s.running = true) (hs : (s.port p).state = .ready) (hp : t.permits (s.port p).role = false) :
    command p t n act s = .next (s.respond p .role []) := by
  simp [command, State.command, hr, hs, hp, State.carryOut_refuse _ _ _ h]

theorem command_stopped (s : State) (p : Port) (t : Tag) (n : Nat) (act : State → Answer) (h : s.running = false) :
    command p t n act s = .next s := by
  simp [command, State.command, h]

/-! ## The response -/

@[simp] theorem State.respond_port_same (s : State) (p : Port) (st : Status) (d : List Byte) :
    (s.respond p st d).port p = { s.port p with overrun := false, state := .responding,
                                                response := some ⟨responseFrame st (s.responseFlags p) d, 0⟩ } := by
  cases p <;> rfl

theorem State.respond_port_other (s : State) (p q : Port) (st : Status) (d : List Byte) (h : q ≠ p) :
    (s.respond p st d).port q = s.port q := by
  cases p <;> cases q <;> first | rfl | exact absurd rfl h

@[simp] theorem State.respond_running (s : State) (p : Port) (st : Status) (d : List Byte) :
    (s.respond p st d).running = s.running := rfl

/-- A response leaves its port answered, with the overrun flag as the command left it. -/
theorem State.respond_answered (s : State) (p : Port) (st : Status) (d : List Byte) :
    (s.respond p st d).answered p (s.port p).overrun st d := by
  refine ⟨by simp, by simp, ?_⟩
  simp only [State.respond_port_same, State.atn, State.respond_running, PortCtx.attention]
  rfl

/-! ## A transfer on a port that is not READY -/

/-- Of a transfer only the bytes up to the response's last one are clocked while the port is in RESPONDING. -/
theorem PortCtx.clockedWith_response (c : PortCtx) (l : List Byte) (r : Response) (h : c.response = some r) :
    c.clockedWith l = l.take r.bytes.length := by
  simp [PortCtx.clockedWith, h]

theorem State.clockedThrough_response (s : State) (p : Port) (n : Nat) (foreign : Bool) (r : Response)
    (hs : (s.port p).state = .responding) (h : (s.port p).response = some r) :
    s.clockedThrough p n foreign = s.setPort p
      (if r.bytes.length ≤ n then { s.port p with overrun := (s.port p).overrun || foreign, state := .ready, response := none }
       else { s.port p with overrun := (s.port p).overrun || foreign, response := some { r with out := 0 } }) := by
  unfold State.clockedThrough
  cases foreign <;> simp [hs, h, PortCtx.drained] <;> split <;> rfl

end Sys2Proof.Machine
end

