-- ==== Sys2Proof/Laws/Frames.lean ====
section
/-! SUPPORT. Reading back the fields of R181 that were written, and judging a frame that was built (R180, R182). -/
namespace Sys2Proof.Machine

@[simp] theorem byte_toNat (n : Nat) : (byte n).toNat = n % 256 := by simp [byte]

/-! ## Fields -/

@[simp] theorem readU8_u8 (n : Nat) (l : List Byte) (h : n < 256) : readU8 (u8 n ++ l) = some (n, l) := by
  simp [readU8, u8, Nat.mod_eq_of_lt h]

@[simp] theorem readByte_cons (b : Byte) (l : List Byte) : readByte (b :: l) = some (b, l) := rfl

@[simp] theorem readU16_u16 (n : Nat) (l : List Byte) (h : n < 65536) : readU16 (u16 n ++ l) = some (n, l) := by
  have : n / 256 % 256 * 256 + n % 256 = n := by omega
  simp [readU16, u16, this]

@[simp] theorem readU32_u32 (n : Nat) (l : List Byte) (h : n < 4294967296) : readU32 (u32 n ++ l) = some (n, l) := by
  have : n / 16777216 % 256 * 16777216 + n / 65536 % 256 * 65536 + n / 256 % 256 * 256 + n % 256 = n := by omega
  simp [readU32, u32, this]

@[simp] theorem readI32_i32 (i : Int) (l : List Byte) (h : fits32 i = true) : readI32 (i32 i ++ l) = some (i, l) := by
  simp only [fits32, Bool.and_eq_true, decide_eq_true_eq] at h
  have e : (BitVec.ofNat 32 (BitVec.ofInt 32 i).toNat).toInt = i := by
    rw [BitVec.ofNat_toNat, BitVec.setWidth_eq, BitVec.toInt_ofInt]
    rw [Int.bmod_eq_of_le] <;> omega
  have hr : readU32 (u32 (BitVec.ofInt 32 i).toNat ++ l) = some ((BitVec.ofInt 32 i).toNat, l) :=
    readU32_u32 _ l (BitVec.ofInt 32 i).isLt
  simp only [readI32, i32, hr, Option.map_some, e]

@[simp] theorem readFlag_emitFlag (b : Bool) (l : List Byte) : readFlag (emitFlag b ++ l) = some (b, l) := by
  cases b <;> rfl

@[simp] theorem readBytes_emitBytes (t l : List Byte) (h : t.length < 256) : readBytes (emitBytes t ++ l) = some (t, l) := by
  simp [readBytes, emitBytes, Nat.mod_eq_of_lt h]

@[simp] theorem readBytes_emitText (t : Text) (l : List Byte) (h : Text.fits t = true) :
    readBytes (emitText t ++ l) = some (t, l) :=
  readBytes_emitBytes t l (by simpa [Text.fits] using h)

@[simp] theorem readReading_emitReading (r : Reading) (l : List Byte) (h : r.fits = true) :
    readReading (emitReading r ++ l) = some (r, l) := by
  simp only [Reading.fits, Bool.and_eq_true, decide_eq_true_eq] at h
  have hy : r.year / 256 % 256 * 256 + r.year % 256 = r.year := by omega
  simp [readReading, emitReading, u16, u8, hy, Nat.mod_eq_of_lt, h]

theorem readOpt_emitOpt {α : Type} (f : α → List Byte) (g : List Byte → Option (α × List Byte)) (x : Option α) (l : List Byte)
    (h : ∀ a, x = some a → g (f a ++ l) = some (a, l)) : readOpt g (emitOpt f x ++ l) = some (x, l) := by
  cases x with
  | none => rfl
  | some a =>
    have e : readFlag (emitOpt f (some a) ++ l) = some (true, f a ++ l) := rfl
    simp [readOpt, e, h a rfl]

@[simp] theorem readOpt_reading (x : Option Reading) (l : List Byte) (h : (x.map Reading.fits).getD true = true) :
    readOpt readReading (emitOpt emitReading x ++ l) = some (x, l) :=
  readOpt_emitOpt _ _ _ _ fun a e => readReading_emitReading a l (by simpa [e] using h)

@[simp] theorem readGiven_emitGiven (p : GivenPosition) (l : List Byte) (h : p.fits = true) :
    readGiven (emitGiven p ++ l) = some (p, l) := by
  simp only [GivenPosition.fits, Bool.and_eq_true] at h
  simp [readGiven, emitGiven, h]

@[simp] theorem readForm_emitForm (p : PositionForm) (l : List Byte) (h : p.fits = true) :
    readForm (emitForm p ++ l) = some (p, l) := by
  cases p with
  | given g => simp [readForm, emitForm, readGiven_emitGiven g l h]
  | current => rfl
  | absent => rfl

@[simp] theorem readPair_emitPair (p : Text × Nat) (l : List Byte) (h : Text.fits p.1 = true) (h' : p.2 < 4294967296) :
    readPair (emitPair p ++ l) = some (p, l) := by
  simp [readPair, emitPair, h, h']

theorem readMany_flatten {α : Type} (f : α → List Byte) (g : List Byte → Option (α × List Byte)) (xs : List α) (l : List Byte)
    (h : ∀ a ∈ xs, ∀ l, g (f a ++ l) = some (a, l)) : readMany g xs.length ((xs.map f).flatten ++ l) = some (xs, l) := by
  induction xs with
  | nil => rfl
  | cons x xs ih =>
    have hx := h x (by simp)
    have ih := ih fun a ha => h a (by simp [ha])
    simp [readMany, hx, ih]

@[simp] theorem readContent_emitContent (c : HaulContent) (l : List Byte) (h : c.fits = true) :
    readContent (emitContent c ++ l) = some (c, l) := by
  simp only [HaulContent.fits, Bool.and_eq_true, decide_eq_true_eq, List.all_eq_true] at h
  obtain ⟨⟨⟨⟨h1, h2⟩, h3⟩, h4⟩, h5⟩ := h
  have hs : ∀ l, readMany readPair c.species.length ((c.species.map emitPair).flatten ++ l) = some (c.species, l) :=
    fun l => readMany_flatten emitPair readPair c.species l fun a ha l =>
      readPair_emitPair a l (h5 a ha).1 (h5 a ha).2
  have e : ∀ l, emitList (c.species.map emitPair) ++ l = u8 c.species.length ++ ((c.species.map emitPair).flatten ++ l) := by
    intro l; simp [emitList, u8]
  unfold readContent emitContent
  simp only [List.append_assoc, readOpt_reading c.first _ h1, readOpt_reading c.last _ h2, readForm_emitForm c.pos _ h3,
    readByte_cons, List.cons_append, List.nil_append, e, bind, Option.bind, pure]
  rw [readU8_u8 _ _ h4]
  simp only [hs]

@[simp] theorem whole_nil {α : Type} (x : α) : whole (some (x, ([] : List Byte))) = some x := rfl

/-! ## Frames -/

theorem Tag.length_name (t : Tag) : t.name.length = 4 := by cases t <;> rfl

theorem Tag.named_name (t : Tag) : Tag.named t.name = some t := by cases t <;> decide

/-- A frame built for a tag and parameters is judged to be that tag with those parameters. -/
theorem judgeTransfer_commandFrame (t : Tag) (ps : List Byte) (h : ps.length ≤ 246) :
    judgeTransfer (commandFrame t ps) = .command t ps false := by
  have hl : (byte (4 + ps.length)).toNat = 4 + ps.length := by rw [byte_toNat]; omega
  have h4 := Tag.length_name t
  have e : commandFrame t ps = 0xA5#8 :: byte (4 + ps.length) ::
      ((t.name ++ ps) ++ checkBytes (byte (4 + ps.length) :: (t.name ++ ps))) := by
    simp [commandFrame, checkedBytes]
  have hc : ∀ l, (checkBytes l).length = 2 := fun _ => rfl
  have hn : (t.name ++ ps).length = 4 + ps.length := by simp [h4]
  rw [e]
  generalize hb : checkBytes (byte (4 + ps.length) :: (t.name ++ ps)) = cb
  have hcb : cb.length = 2 := by rw [← hb]; exact hc _
  have t1 : (t.name ++ ps ++ cb).take (4 + ps.length) = t.name ++ ps := by
    rw [← hn]; exact List.take_left
  have t2 : (t.name ++ ps ++ cb).drop (4 + ps.length) = cb := by
    rw [← hn]; exact List.drop_left
  have t3 : cb.take 2 = cb := List.take_of_length_le (by omega)
  have n1 : (t.name ++ ps).take 4 = t.name := by rw [← h4]; exact List.take_left
  have n2 : (t.name ++ ps).drop 4 = ps := by rw [← h4]; exact List.drop_left
  have hlen : (t.name ++ ps ++ cb).length = 4 + ps.length + 2 := by rw [List.length_append, hn, hcb]
  unfold judgeTransfer
  simp only [hl, t1, t2, t3, n1, n2, hb, hlen, Tag.named_name]
  simp
  omega

end Sys2Proof.Machine
end

