-- ==== Sys2Proof/Laws/KeyLine.lean ====
section
/-! SUPPORT. The key law (R55), operation by operation: what touches neither the monitor, nor the transmit path, nor
the arbiter keeps all three (`key_…`); what touches them keeps the law (`keyed_…`). -/
set_option linter.unusedSimpArgs false

namespace Sys2Proof.Machine

/-- What the key law looks at. -/
def State.key (s : State) : KeyState × TxPath × Arbiter := (s.monitor, s.tx, s.arb)

/-- The key law over what it looks at. -/
def keyed (k : KeyState × TxPath × Arbiter) : Prop :=
  (k.1 = .rising ∨ k.1 = .keyed ↔ k.2.2.grant.map (·.phase) = some .tx ∧ k.2.1.heldBack = false) ∧
  (k.2.1.heldBack = true → k.2.2.grant.map (·.phase) = some .tx ∧ k.1 = .falling) ∧
  (k.2.1.list ≠ [] → k.2.2.grant.map (·.phase) = some .tx) ∧
  ∀ g, k.2.2.grant = some g → g.phase = .tx → g.channel.isSome = true ∧ g.holder.transmits

theorem State.keyOk_iff (s : State) : s.keyOk ↔ keyed s.key := Iff.rfl

theorem State.key_ite (c : Prop) [Decidable c] (s t : State) : (if c then s else t).key = if c then s.key else t.key := by
  split <;> rfl

theorem State.key_foldl {α : Type} (f : State → α → State) (hf : ∀ s x, (f s x).key = s.key) (l : List α) (s : State) :
    (l.foldl f s).key = s.key := by
  induction l generalizing s with
  | nil => rfl
  | cons x xs ih => rw [List.foldl_cons, ih, hf]

theorem State.keyed_foldl {α : Type} (f : State → α → State) (hf : ∀ s x, keyed s.key → keyed (f s x).key) (l : List α)
    (s : State) (h : keyed s.key) : keyed (l.foldl f s).key := by
  induction l generalizing s with
  | nil => exact h
  | cons x xs ih => exact ih _ (hf _ _ h)

/-! ## Fields the key law does not look at -/

theorem State.key_with_supply (s : State) (x : Supply) : ({ s with supply := x } : State).key = s.key := by
  cases s; rfl
theorem State.key_with_pins (s : State) (x : Pins) : ({ s with pins := x } : State).key = s.key := by
  cases s; rfl
theorem State.key_with_time (s : State) (x : Timebase) : ({ s with time := x } : State).key = s.key := by
  cases s; rfl
theorem State.key_with_position (s : State) (x : PositionRecord) : ({ s with position := x } : State).key = s.key := by
  cases s; rfl
theorem State.key_with_ident (s : State) (x : Identity) : ({ s with ident := x } : State).key = s.key := by
  cases s; rfl
theorem State.key_with_channels (s : State) (x : List Channel) : ({ s with channels := x } : State).key = s.key := by
  cases s; rfl
theorem State.key_with_trx (s : State) (x : RxPath) : ({ s with trx := x } : State).key = s.key := by
  cases s; rfl
theorem State.key_with_watchPath (s : State) (x : RxPath) : ({ s with watchPath := x } : State).key = s.key := by
  cases s; rfl
theorem State.key_with_sampler (s : State) (x : Option Conversion) : ({ s with sampler := x } : State).key = s.key := by
  cases s; rfl
theorem State.key_with_scanner (s : State) (x : Scanner) : ({ s with scanner := x } : State).key = s.key := by
  cases s; rfl
theorem State.key_with_watch (s : State) (x : WatchRx) : ({ s with watch := x } : State).key = s.key := by
  cases s; rfl
theorem State.key_with_tuner (s : State) (x : Tuner) : ({ s with tuner := x } : State).key = s.key := by
  cases s; rfl
theorem State.key_with_tstb (s : State) (x : Nat) : ({ s with tstb := x } : State).key = s.key := by
  cases s; rfl
theorem State.key_with_wstb (s : State) (x : Nat) : ({ s with wstb := x } : State).key = s.key := by
  cases s; rfl
theorem State.key_shiftTo (s : State) (b : Bool) : (s.shiftTo b).key = s.key := rfl
theorem State.key_shifts (s : State) (l : List Bool) : (s.shifts l).key = s.key := by
  rw [State.shifts_frame]; rfl
theorem State.key_with_fault (s : State) (x : FaultRecord) : ({ s with fault := x } : State).key = s.key := by
  cases s; rfl
theorem State.key_with_store (s : State) (x : Store) : ({ s with store := x } : State).key = s.key := by
  cases s; rfl
theorem State.key_with_log (s : State) (x : HaulLog) : ({ s with log := x } : State).key = s.key := by
  cases s; rfl
theorem State.key_with_queue (s : State) (x : OutQueue) : ({ s with queue := x } : State).key = s.key := by
  cases s; rfl
theorem State.key_with_inbound (s : State) (x : InboundSide) : ({ s with inbound := x } : State).key = s.key := by
  cases s; rfl
theorem State.key_with_link (s : State) (x : Link) : ({ s with link := x } : State).key = s.key := by
  cases s; rfl
theorem State.key_with_windows (s : State) (x : List Window) : ({ s with windows := x } : State).key = s.key := by
  cases s; rfl
theorem State.key_with_bull (s : State) (x : BulletinEngine) : ({ s with bull := x } : State).key = s.key := by
  cases s; rfl
theorem State.key_with_own (s : State) (x : OwnAlert) : ({ s with own := x } : State).key = s.key := by
  cases s; rfl
theorem State.key_with_cycle (s : State) (x : Option Cycle) : ({ s with cycle := x } : State).key = s.key := by
  cases s; rfl
theorem State.key_with_frameBuf (s : State) (x : List Symbol) : ({ s with frameBuf := x } : State).key = s.key := by
  cases s; rfl
theorem State.key_with_heard (s : State) (x : List Heard) : ({ s with heard := x } : State).key = s.key := by
  cases s; rfl
theorem State.key_with_heardCounts (s : State) (x : HeardCounts) : ({ s with heardCounts := x } : State).key = s.key := by
  cases s; rfl
theorem State.key_with_silence (s : State) (x : Silence) : ({ s with silence := x } : State).key = s.key := by
  cases s; rfl
theorem State.key_with_ports (s : State) (x : Ports) : ({ s with ports := x } : State).key = s.key := by
  cases s; rfl
theorem State.key_with_alarm (s : State) (x : Alarm) : ({ s with alarm := x } : State).key = s.key := by
  cases s; rfl
theorem State.key_with_signals (s : State) (x : List Signal) : ({ s with signals := x } : State).key = s.key := by
  cases s; rfl
theorem State.key_with_freeCount (s : State) (x : Nat) : ({ s with freeCount := x } : State).key = s.key := by
  cases s; rfl
theorem State.key_with_pending (s : State) (x : List Instr) : ({ s with pending := x } : State).key = s.key := by
  cases s; rfl

theorem State.key_with_cycleBuf (s : State) (x : Option Cycle) (y : List Symbol) :
    ({ s with cycle := x, frameBuf := y } : State).key = s.key := by
  cases s; rfl

/-! ## Small updates -/

theorem State.key_modChannel (s : State) (i : Nat) (f : Channel → Channel) : (s.modChannel i f).key = s.key := by
  unfold State.modChannel
  repeat' first | with_reducible rfl | split | simp only [
    State.key_with_channels, State.key_ite, ite_self]

theorem State.key_setPath (s : State) (p : Path) (r : RxPath) : (s.setPath p r).key = s.key := by
  cases p <;> rfl

theorem State.key_modOutbound (s : State) (n : Nat) (f : Outbound → Outbound) : (s.modOutbound n f).key = s.key := by
  unfold State.modOutbound
  (repeat' split) <;> rfl

theorem State.key_modWindow (s : State) (i : Nat) (f : Window → Window) : (s.modWindow i f).key = s.key := by
  unfold State.modWindow
  repeat' first | with_reducible rfl | split | simp only [
    State.key_with_windows, State.key_ite, ite_self]

theorem State.key_setPort (s : State) (p : Port) (c : PortCtx) : (s.setPort p c).key = s.key := by
  unfold State.setPort
  repeat' first | with_reducible rfl | split | simp only [
    State.key_with_ports, State.key_ite, ite_self]

theorem State.key_mapPorts (s : State) (f : Port → PortCtx → PortCtx) : (s.mapPorts f).key = s.key := by
  cases s; rfl

theorem State.key_post (s : State) (g : Signal) : (s.post g).key = s.key := by
  unfold State.post
  repeat' first | with_reducible rfl | split | simp only [
    State.key_with_signals, State.key_ite, ite_self]

theorem State.key_raiseOn (s : State) (n : Notice) (who : Port → Role → Bool) : (s.raiseOn n who).key = s.key := by
  unfold State.raiseOn
  repeat' first | with_reducible rfl | split | simp only [
    State.key_mapPorts, State.key_ite, ite_self]

theorem State.key_raiseAll (s : State) (n : Notice) : (s.raiseAll n).key = s.key := by
  unfold State.raiseAll
  repeat' first | with_reducible rfl | split | simp only [
    State.key_raiseOn, State.key_ite, ite_self]

theorem State.key_raiseOthers (s : State) (n : Notice) (p : Port) : (s.raiseOthers n p).key = s.key := by
  unfold State.raiseOthers
  repeat' first | with_reducible rfl | split | simp only [
    State.key_raiseOn, State.key_ite, ite_self]

theorem State.key_alarmActive (s : State) (c : Cause) (on : Bool) : (s.alarmActive c on).key = s.key := by
  unfold State.alarmActive
  repeat' first | with_reducible rfl | split | simp only [
    State.key_with_alarm, State.key_ite, ite_self]

theorem State.key_alarmEvent (s : State) (c : Cause) : (s.alarmEvent c).key = s.key := by
  unfold State.alarmEvent
  repeat' first | with_reducible rfl | split | simp only [
    State.key_with_alarm, State.key_ite, ite_self]

theorem State.key_setHold (s : State) (p : Port) (r : HoldRef) : (s.setHold p r).key = s.key := by
  unfold State.setHold
  repeat' first | with_reducible rfl | split | simp only [
    State.key_setPort, State.key_ite, ite_self]

theorem State.key_clearHold (s : State) (p : Port) : (s.clearHold p).key = s.key := by
  unfold State.clearHold
  repeat' first | with_reducible rfl | split | simp only [
    State.key_setPort, State.key_ite, ite_self]

theorem State.key_loseHolds (s : State) (which : HoldRef → Bool) : (s.loseHolds which).key = s.key := by
  unfold State.loseHolds
  repeat' first | with_reducible rfl | split | simp only [
    State.key_mapPorts, State.key_ite, ite_self]

theorem State.key_writtenBy (s : State) (p : Port) (r : HoldRef) : (s.writtenBy p r).key = s.key := by
  unfold State.writtenBy
  repeat' first | with_reducible rfl | split | simp only [
    State.key_mapPorts, State.key_clearHold, State.key_ite, ite_self]

theorem State.key_drawn (s : State) : s.drawn.key = s.key := by
  unfold State.drawn
  repeat' first | with_reducible rfl | split | simp only [
    State.key_with_freeCount, State.key_ite, ite_self]

theorem State.key_score (s : State) (entry : Nat) (change : Int) : (s.score entry change).key = s.key := by
  unfold State.score
  repeat' first | with_reducible rfl | split | simp only [
    State.key_modChannel, State.key_ite, ite_self]

/-! ## Store -/

theorem State.key_lowTest (s : State) : s.lowTest.key = s.key := by
  unfold State.lowTest
  repeat' first | with_reducible rfl | split | simp only [
    State.key_raiseAll, State.key_with_store, State.key_ite, ite_self]

theorem State.key_expirySweep (s : State) : s.expirySweep.key = s.key := by
  unfold State.expirySweep
  repeat' first | with_reducible rfl | split | simp only [
    State.key_lowTest, State.key_with_store, State.key_ite, ite_self]

theorem State.key_partDrop (s : State) : s.partDrop.key = s.key := by
  unfold State.partDrop
  repeat' first | with_reducible rfl | split | simp only [
    State.key_lowTest, State.key_with_store, State.key_ite, ite_self]

theorem State.key_partOpen (s : State) (key : BulletinKey) (number count : Nat) :
    (s.partOpen key number count).key = s.key := by
  unfold State.partOpen
  repeat' first | with_reducible rfl | split | simp only [
    State.key_partDrop, State.key_with_store, State.key_ite, ite_self]

theorem State.key_partExtend (s t : State) (x : Text) (d : Nat) (h : s.partExtend x d = some t) : t.key = s.key := by
  unfold State.partExtend at h
  split at h
  · simp at h; rw [h]
  · simp only at h
    split at h
    · simp at h
    · simp only [Option.some.injEq] at h
      rw [← h, State.key_lowTest, State.key_with_store]

theorem State.key_partAttach (s : State) (n : Nat) : (s.partAttach n).key = s.key := by
  unfold State.partAttach
  repeat' first | with_reducible rfl | split | simp only [
    State.key_lowTest, State.key_with_store, State.key_ite, ite_self]

theorem State.key_partReplace (s : State) (n : Nat) : (s.partReplace n).key = s.key := by
  unfold State.partReplace
  repeat' first | with_reducible rfl | split | simp only [
    State.key_lowTest, State.key_with_store, State.key_ite, ite_self]

theorem State.key_partAttachNew (s t : State) (e : Int) (h : s.partAttachNew e = some t) : t.key = s.key := by
  unfold State.partAttachNew at h
  split at h
  · simp at h; rw [h]
  · split at h
    · simp at h
    · simp only [Option.some.injEq] at h
      rw [← h, State.key_lowTest, State.key_with_store]

/-! ## Transceiver -/

theorem State.key_stampScanned (s : State) (i : Nat) : (s.stampScanned i).key = s.key := by
  unfold State.stampScanned
  repeat' first | with_reducible rfl | split | simp only [
    State.key_modChannel, State.key_ite, ite_self]

theorem State.key_stampGood (s : State) (i : Nat) (t : Stamp) : (s.stampGood i t).key = s.key := by
  unfold State.stampGood
  repeat' first | with_reducible rfl | split | simp only [
    State.key_modChannel, State.key_ite, ite_self]

theorem State.key_startConversion (s : State) (input : LevelInput) (entry : Nat) (cause : LevelCause) :
    (s.startConversion input entry cause).key = s.key := by
  unfold State.startConversion
  repeat' first | with_reducible rfl | split | simp only [
    State.key_with_sampler, State.key_ite, ite_self]

theorem State.key_deliverFrame (s : State) (p : Path) (r : FrameRec) (atClose : Bool) :
    (s.deliverFrame p r atClose).key = s.key := by
  unfold State.deliverFrame
  repeat' first | with_reducible rfl | split | simp only [
    State.key_stampGood, State.key_post, State.key_startConversion, State.key_ite, ite_self]

theorem State.key_deliverEvent (s : State) (p : Path) (event : Option Claimant → Signal) :
    (s.deliverEvent p event).key = s.key := by
  unfold State.deliverEvent
  repeat' first | with_reducible rfl | split | simp only [
    State.key_post, State.key_ite, ite_self]

theorem State.key_pathBreak (s : State) (p : Path) (familyChange : Bool) :
    (s.pathBreak p familyChange).key = s.key := by
  unfold State.pathBreak
  repeat' first | with_reducible rfl | split | simp only [
    State.key_setPath, State.key_deliverFrame, State.key_ite, ite_self]

theorem State.key_watchStepTo (s : State) (i : Nat) : (s.watchStepTo i).key = s.key := by
  unfold State.watchStepTo
  rw [State.key_pathBreak]
  rfl

theorem State.key_watchStepAfter (s : State) (last : Option Nat) : (s.watchStepAfter last).key = s.key := by
  unfold State.watchStepAfter
  repeat' first | with_reducible rfl | split | simp only [
    State.key_watchStepTo, State.key_with_watch, State.key_ite, ite_self]

theorem State.key_watchMoveOn (s : State) : s.watchMoveOn.key = s.key := by
  unfold State.watchMoveOn
  repeat' first | with_reducible rfl | split | simp only [
    State.key_stampScanned, State.key_startConversion, State.key_watchStepAfter, State.key_ite, ite_self]

theorem State.key_blank (s : State) : s.blank.key = s.key := by
  unfold State.blank
  repeat' first | with_reducible rfl | split | simp only [
    State.key_pathBreak, State.key_stampScanned, State.key_watchStepAfter, State.key_with_watch, State.key_ite,
    ite_self]

theorem State.key_unblank (s : State) : s.unblank.key = s.key := by
  unfold State.unblank
  repeat' first | with_reducible rfl | split | simp only [
    State.key_with_watch, State.key_ite, ite_self]

theorem State.key_drawnPost (s : State) (g : Signal) : (s.drawn.post g).key = s.key := by
  cases s; rfl

/-- Where TX has just been entered, asserting the key keeps the law. -/
theorem State.keyed_assertKey (s : State) (hm : s.monitor = .quiet ∨ s.monitor = .stuck) (hp : s.phase = some .tx)
    (hg : ∀ g, s.arb.grant = some g → g.phase = .tx → g.channel.isSome = true ∧ g.holder.transmits) :
    keyed s.assertKey.key := by
  have hk : ∃ m, (m = KeyState.rising ∨ m = KeyState.keyed) ∧
      s.assertKey.key = (m, { s.tx with heldBack := false }, s.arb) := by
    rcases hm with hm | hm
    · refine ⟨.rising, .inl rfl, ?_⟩
      unfold State.assertKey
      simp only [hm]
      split <;> simp only [State.key_post, State.key_blank, State.key_pathBreak] <;> rfl
    · refine ⟨.keyed, .inr rfl, ?_⟩
      unfold State.assertKey
      simp only [hm]
      split <;> simp only [State.key_post, State.key_blank, State.key_pathBreak] <;> rfl
  obtain ⟨m, hm', hk⟩ := hk
  rw [hk]
  refine ⟨⟨fun _ => ⟨hp, rfl⟩, fun _ => hm'⟩, fun h => by simp at h, fun _ => hp, hg⟩

/-- No key, nothing on air, no grant in TX. -/
def resting (k : KeyState × TxPath × Arbiter) : Prop :=
  k.1 ≠ .rising ∧ k.1 ≠ .keyed ∧ k.2.1.heldBack = false ∧ k.2.1.list = [] ∧ k.2.2.grant.map (·.phase) ≠ some .tx

theorem keyed_of_resting {k : KeyState × TxPath × Arbiter} (h : resting k) : keyed k := by
  obtain ⟨h1, h2, h3, h4, h5⟩ := h
  refine ⟨⟨fun h => ?_, fun h => absurd h.1 h5⟩, fun h => ?_, fun h => absurd h4 h, fun g hg hp => ?_⟩
  · rcases h with h | h
    · exact absurd h h1
    · exact absurd h h2
  · rw [h3] at h; cases h
  · exact absurd (by rw [hg]; simp [hp]) h5

theorem resting_of_keyed {k : KeyState × TxPath × Arbiter} (h : keyed k) (hp : k.2.2.grant.map (·.phase) ≠ some .tx) :
    resting k := by
  obtain ⟨h1, h2, h3, _⟩ := h
  refine ⟨fun hm => hp (h1.1 (.inl hm)).1, fun hm => hp (h1.1 (.inr hm)).1, ?_, ?_, hp⟩
  · cases hb : k.2.1.heldBack with
    | false => rfl
    | true => exact absurd (h2 hb).1 hp
  · exact Decidable.byContradiction fun hl => hp (h3 hl)

/-- A resting part stays resting under any grant that is not in TX. -/
theorem resting_arb {m : KeyState} {t : TxPath} {a b : Arbiter} (h : resting (m, t, a))
    (hb : b.grant.map (·.phase) ≠ some .tx) : resting (m, t, b) := ⟨h.1, h.2.1, h.2.2.1, h.2.2.2.1, hb⟩

theorem State.key_setPhase (s : State) (ph : Phase) :
    (s.setPhase ph).key = (s.monitor, s.tx, { s.arb with grant := s.arb.grant.map fun g => { g with phase := ph } }) := rfl

/-- The monitor after the key is released. -/
def KeyState.released : KeyState → KeyState
  | .rising => .quiet
  | .keyed => .falling
  | m => m

theorem KeyState.released_off (m : KeyState) : m.released ≠ .rising ∧ m.released ≠ .keyed := by cases m <;> decide

theorem State.key_releaseKey (s : State) : s.releaseKey.key = (s.monitor.released, s.tx, s.arb) := by
  unfold State.releaseKey
  split <;> simp [State.key, State.unblank, KeyState.released, *]

theorem State.key_stopPath (s : State) : s.stopPath.key = (s.monitor, TxPath.reset, s.arb) := by
  unfold State.stopPath
  simp only
  split <;> rfl

theorem State.keyed_completePath (s : State) (n : Nat) : keyed (s.completePath n).key := by
  have hk : (s.completePath n).key =
      (s.monitor.released, TxPath.reset, { s.arb with grant := s.arb.grant.map fun g => { g with phase := .rx } }) := by
    have h1 := State.key_releaseKey { s with tx := TxPath.reset }
    have h2 := State.key_setPhase ({ s with tx := TxPath.reset } : State).releaseKey .rx
    simp only [State.key, Prod.mk.injEq] at h1
    rw [h1.1, h1.2.1, h1.2.2] at h2
    unfold State.completePath
    simp only
    split
    · rw [State.key_post]; exact h2
    · exact h2
  rw [hk]
  refine keyed_of_resting ⟨(KeyState.released_off _).1, (KeyState.released_off _).2, rfl, rfl, ?_⟩
  cases h : s.arb.grant <;> simp [h]

theorem State.keyed_trim (s : State) (h : keyed s.key) : keyed s.trim.key := by
  unfold State.trim
  split
  · exact h
  · rename_i hl
    split
    · exact State.keyed_completePath s 0
    · obtain ⟨h1, h2, h3, h4⟩ := h
      exact ⟨h1, h2, fun _ => h3 hl, h4⟩

theorem State.keyed_requestRelease (s : State) (h : keyed s.key) : keyed s.requestRelease.key := by
  unfold State.requestRelease
  split
  · rename_i g hg
    rw [State.key_drawnPost]
    obtain ⟨h1, h2, h3, h4⟩ := h
    simp only [State.key, hg, Option.map_some] at h1 h2 h3 h4
    refine ⟨h1, h2, h3, fun g' hg' => ?_⟩
    simp only [State.key, Option.some.injEq] at hg'
    subst hg'
    exact h4 g rfl
  · exact h

theorem State.keyed_grantTo (s : State) (c : Claimant) (h : keyed s.key) (hn : s.arb.grant = none) :
    keyed (s.grantTo c).key := by
  have hr : resting s.key := resting_of_keyed h (by simp [State.key, hn])
  have hk : keyed (({ s with arb := { s.arb with grant := some ⟨c, none, .rx, none⟩ } }.pathBreak .transceiver true).post
      (.granted c)).key := by
    simp only [State.key_post, State.key_pathBreak]
    exact keyed_of_resting (resting_arb hr (by simp))
  unfold State.grantTo
  simp only
  split
  · exact State.keyed_requestRelease _ hk
  · exact hk

/-- A part with no key and nothing on air may lose its grant. -/
theorem State.keyed_endGrant (s : State) (h : resting ({ s with arb := { s.arb with grant := none } } : State).key) :
    keyed s.endGrant.key := by
  have hk : ({ s with arb := { s.arb with grant := none } }.pathBreak .transceiver true).key =
      ({ s with arb := { s.arb with grant := none } } : State).key := State.key_pathBreak _ _ _
  have ha : ({ s with arb := { s.arb with grant := none } }.pathBreak .transceiver true).arb = { s.arb with grant := none } :=
    congrArg (fun k => k.2.2) hk
  unfold State.endGrant
  simp only
  split
  · refine State.keyed_grantTo _ _ ?_ (by simp [ha])
    refine keyed_of_resting ?_
    have := hk ▸ h
    exact resting_arb this (by simp [ha])
  · rw [State.key_post, hk]; exact keyed_of_resting h

theorem resting_noGrant {s : State} (h : keyed s.key) (hp : s.phase ≠ some .tx) :
    resting ({ s with arb := { s.arb with grant := none } } : State).key :=
  resting_arb (resting_of_keyed h hp) (by simp)

theorem resting_stopped (s : State) (a : Arbiter) :
    resting ({ s.releaseKey.stopPath with arb := { a with grant := none } } : State).key := by
  have h1 := State.key_stopPath s.releaseKey
  have h2 := State.key_releaseKey s
  simp only [State.key, Prod.mk.injEq] at h1 h2
  refine ⟨?_, ?_, ?_, ?_, by simp [State.key]⟩ <;> simp only [State.key, h1, h2]
  · exact (KeyState.released_off _).1
  · exact (KeyState.released_off _).2
  · rfl
  · rfl

theorem State.keyed_claim (s : State) (c : Claimant) (h : keyed s.key) : keyed (s.claim c).key := by
  unfold State.claim
  split
  · exact h
  · split
    · rename_i hn
      split
      · exact h
      · exact State.keyed_grantTo s c h hn
    · split
      · exact h
      · simp only
        split
        · exact State.keyed_requestRelease _ h
        · exact h

theorem State.keyed_release (s : State) (c : Claimant) (h : keyed s.key) : keyed (s.release c).key := by
  have hu : keyed (if c = .tune then { s with arb := { s.arb with tune := none } } else s).key := by
    split
    · exact h
    · exact h
  unfold State.release
  generalize (if c = .tune then { s with arb := { s.arb with tune := none } } else s : State) = u at hu ⊢
  simp only
  split
  · split
    · exact State.keyed_endGrant _ (resting_stopped u u.releaseKey.stopPath.arb)
    · rename_i hp
      exact State.keyed_endGrant _ (resting_noGrant hu hp)
  · exact hu

theorem State.keyed_revoke (s : State) (h : keyed s.key) : keyed s.revoke.key := by
  unfold State.revoke
  split
  · exact h
  · rename_i g hg
    have hu : resting ({ (if g.phase = .tx then s.releaseKey.stopPath else s) with
        arb := { (if g.phase = .tx then s.releaseKey.stopPath else s).arb with grant := none } } : State).key := by
      split
      · exact resting_stopped s s.releaseKey.stopPath.arb
      · rename_i hp
        exact resting_noGrant h (by simp [State.phase, hg, hp])
    generalize (if g.phase = .tx then s.releaseKey.stopPath else s : State) = u at hu ⊢
    refine State.keyed_endGrant _ ?_
    split
    · exact resting_arb hu (by simp)
    · exact hu

theorem State.keyed_tuneTo (s : State) (c : Claimant) (i : Nat) (h : keyed s.key) : keyed (s.tuneTo c i).key := by
  unfold State.tuneTo
  split
  · exact h
  · rename_i g hg
    split
    · exact h
    · split
      · exact h
      · rename_i hp
        rw [State.key_pathBreak]
        have : s.phase ≠ some .tx := by
          simp only [State.phase, hg, Option.map_some, ne_eq, Option.some.injEq]
          intro e; exact hp (.inl e)
        exact keyed_of_resting (resting_arb (resting_of_keyed h this) (by simp))

theorem txBlocked_false {s : State} {g : Grant} (h : ¬txBlocked s g = true) :
    g.phase = .rx ∧ g.channel.isSome = true ∧ g.holder.transmits := by
  unfold txBlocked at h
  cases hh : g.holder <;> cases hc : g.channel <;> simp_all [Claimant.transmits]

theorem State.keyed_txRequest (s : State) (c : Claimant) (h : keyed s.key) : keyed (s.txRequest c).key := by
  unfold State.txRequest
  split
  · exact h
  · rename_i g hg
    split
    · exact h
    · split
      · exact h
      · rename_i hb
        obtain ⟨hp, hc, ht⟩ := txBlocked_false hb
        have hr : resting s.key := resting_of_keyed h (by simp [State.key, hg, hp])
        have hG : ∀ g', (s.setPhase .tx).arb.grant = some g' → g'.phase = .tx →
            g'.channel.isSome = true ∧ g'.holder.transmits := by
          intro g' hg' _
          simp only [State.setPhase, hg, Option.map_some, Option.some.injEq] at hg'
          subst hg'
          exact ⟨hc, ht⟩
        have hP : (s.setPhase .tx).phase = some .tx := by simp [State.phase, State.setPhase, hg]
        obtain ⟨r1, r2, r3, r4, _⟩ := hr
        simp only
        split
        · rename_i hm
          refine ⟨⟨fun e => ?_, fun e => by simp [State.key] at e⟩, fun _ => ⟨hP, hm⟩, fun _ => hP, hG⟩
          simp only [State.key, hm] at e
          simp at e
        · rename_i hm
          refine State.keyed_assertKey _ ?_ hP hG
          change s.monitor = .quiet ∨ s.monitor = .stuck
          change ¬s.monitor = .falling at hm
          simp only [State.key] at r1 r2
          cases e : s.monitor <;> simp_all

theorem State.keyed_offer (s : State) (c : Claimant) (l : List Symbol) (h : keyed s.key) : keyed (s.offer c l).key := by
  unfold State.offer
  split
  · rename_i hc
    obtain ⟨h1, h2, _, h4⟩ := h
    exact ⟨h1, h2, fun _ => hc.2.1, h4⟩
  · exact h

theorem State.keyed_keyFault (s : State) (k : KeyFaultKind)
    (h : s.phase ≠ some .tx → resting (s.monitor.released, s.tx, s.arb)) : keyed (s.keyFault k).key := by
  have tail : ∀ u : State, keyed u.key → ∀ e : FaultEntry, ∀ b : FaultState,
      keyed (if b = FaultState.pending then (({ u with fault := u.fault.enter e }.raiseAll .fault).alarmEvent .fault).post .gateClosed
        else ({ u with fault := u.fault.enter e }.raiseAll .fault).alarmEvent .fault).key := by
    intro u hu e b
    split <;> exact hu
  have hk := State.key_releaseKey s
  unfold State.keyFault
  simp only
  refine tail _ ?_ _ _
  split
  · have h1 := State.key_stopPath s.releaseKey
    have h2 := State.key_setPhase s.releaseKey.stopPath .rx
    simp only [State.key, Prod.mk.injEq] at h1 hk
    rw [h1.1, h1.2.1, h1.2.2, hk.1, hk.2.2] at h2
    have hr : keyed (s.releaseKey.stopPath.setPhase .rx).key := by
      rw [h2]
      refine keyed_of_resting ⟨(KeyState.released_off _).1, (KeyState.released_off _).2, rfl, rfl, ?_⟩
      cases e : s.arb.grant <;> simp
    split
    · exact hr
    · exact hr
  · rename_i hp
    have hp' : s.phase ≠ some .tx := by
      have := congrArg (fun k => k.2.2) hk
      simp only [State.key] at this
      simpa [State.phase, this] using hp
    rw [hk]
    exact keyed_of_resting (h hp')

theorem State.keyed_senseRise (s : State) (h : keyed s.key) : keyed s.senseRise.key := by
  obtain ⟨h1, h2, h3, h4⟩ := h
  unfold State.senseRise
  split
  · rename_i hm
    refine ⟨⟨fun e => by simp [State.key] at e, fun e => ?_⟩, fun e => ⟨(h2 e).1, rfl⟩, h3, h4⟩
    have := h1.2 e
    simp [State.key, hm] at this
  · rename_i hm
    refine ⟨⟨fun _ => h1.1 (.inl hm), fun _ => .inr rfl⟩, fun e => ?_, h3, h4⟩
    have := (h2 e).2
    simp [State.key, hm] at this
  · exact ⟨h1, h2, h3, h4⟩
  · exact ⟨h1, h2, h3, h4⟩
  · exact ⟨h1, h2, h3, h4⟩

theorem State.keyed_senseFall (s : State) (h : keyed s.key) : keyed s.senseFall.key := by
  obtain ⟨h1, h2, h3, h4⟩ := h
  unfold State.senseFall
  split
  · rename_i hm
    refine ⟨⟨fun _ => h1.1 (.inr hm), fun _ => .inl rfl⟩, fun e => ?_, h3, h4⟩
    have := (h2 e).2
    simp [State.key, hm] at this
  · rename_i hm
    simp only
    split
    · rename_i hb
      exact State.keyed_assertKey _ (.inl rfl) (h2 hb).1 h4
    · rename_i hb
      refine ⟨⟨fun e => by simp [State.key] at e, fun e => ?_⟩, fun e => absurd e hb, h3, h4⟩
      have := h1.2 e
      simp [State.key, hm] at this
  · rename_i hm
    refine ⟨⟨fun e => by simp [State.key] at e, fun e => ?_⟩, fun e => ?_, h3, h4⟩
    · have := h1.2 e
      simp [State.key, hm] at this
    · have := (h2 e).2
      simp [State.key, hm] at this
  · exact ⟨h1, h2, h3, h4⟩
  · exact ⟨h1, h2, h3, h4⟩

theorem State.keyed_scanCheck (s : State) (hk : keyed s.key) : keyed s.scanCheck.key := by
  unfold State.scanCheck
  repeat' first | with_reducible exact hk | split | simp only [
    State.keyed_claim, State.key_with_scanner, State.key_ite, hk]

theorem State.keyed_scanDwell (s : State) (i : Nat) (hk : keyed s.key) : keyed (s.scanDwell i).key := by
  unfold State.scanDwell
  repeat' first | with_reducible exact hk | split | simp only [
    State.keyed_tuneTo, State.key_with_scanner, State.key_ite, hk]

theorem State.keyed_scanEnd (s : State) (hk : keyed s.key) : keyed s.scanEnd.key := by
  unfold State.scanEnd
  repeat' first | with_reducible exact hk | split | simp only [
    State.key_stampScanned, State.key_score, State.key_startConversion, State.keyed_scanDwell,
    State.keyed_release, State.key_with_scanner, State.key_ite, hk]

theorem State.keyed_scanScheduledEnd (s : State) (hk : keyed s.key) : keyed s.scanScheduledEnd.key := by
  unfold State.scanScheduledEnd
  repeat' first | with_reducible exact hk | split | simp only [
    State.keyed_scanEnd, State.key_with_scanner, State.key_ite, hk]

theorem State.keyed_scanGranted (s : State) (hk : keyed s.key) : keyed s.scanGranted.key := by
  unfold State.scanGranted
  repeat' first | with_reducible exact hk | split | simp only [
    State.keyed_scanDwell, State.keyed_release, State.key_ite, hk]

theorem State.keyed_scanRelease (s : State) (hk : keyed s.key) : keyed s.scanRelease.key := by
  unfold State.scanRelease
  repeat' first | with_reducible exact hk | split | simp only [
    State.keyed_scanEnd, State.key_with_scanner, State.key_ite, hk]

theorem State.keyed_scanPhasing (s : State) (hk : keyed s.key) : keyed s.scanPhasing.key := by
  unfold State.scanPhasing
  repeat' first | with_reducible exact hk | split | simp only [
    State.keyed_scanEnd, State.key_with_scanner, State.key_ite, hk]

theorem State.keyed_scanPhasingGone (s : State) (hk : keyed s.key) : keyed s.scanPhasingGone.key := by
  unfold State.scanPhasingGone
  repeat' first | with_reducible exact hk | split | simp only [
    State.keyed_scanEnd, State.key_ite, hk]

theorem State.keyed_tuneGranted (s : State) (hk : keyed s.key) : keyed s.tuneGranted.key := by
  unfold State.tuneGranted
  repeat' first | with_reducible exact hk | split | simp only [
    State.keyed_tuneTo, State.keyed_release, State.key_ite, hk]

theorem State.keyed_tuneGateClosed (s : State) (hk : keyed s.key) : keyed s.tuneGateClosed.key := by
  unfold State.tuneGateClosed
  repeat' first | with_reducible exact hk | split | simp only [
    State.keyed_release, State.key_ite, hk]

/-! ## Reception -/

theorem State.key_assemble (s : State) (p : Path) (f : Family) (g : Group) : (s.assemble p f g).key = s.key := by
  unfold State.assemble
  repeat' first | with_reducible rfl | split | simp only [
    State.key_setPath, State.key_deliverFrame, State.key_ite, ite_self]

theorem State.key_turnAndClear (s : State) (p : Path) (g : Group) : (s.turnAndClear p g).key = s.key := by
  unfold State.turnAndClear
  repeat' first | with_reducible rfl | split | simp only [
    State.key_setPath, State.key_deliverEvent, State.key_ite, ite_self]

theorem State.key_phasingStep (s : State) (p : Path) (g : Group) : (s.phasingStep p g).key = s.key := by
  unfold State.phasingStep
  repeat' first | with_reducible rfl | split | simp only [
    State.key_setPath, State.key_deliverEvent, State.key_ite, ite_self]

theorem State.key_searchGroup (s : State) (p : Path) (g : Group) : (s.searchGroup p g).key = s.key := by
  unfold State.searchGroup
  repeat' first | with_reducible rfl | split | simp only [
    State.key_setPath, State.key_phasingStep, State.key_ite, ite_self]

theorem State.key_loseLock (s : State) (p : Path) : (s.loseLock p).key = s.key := by
  unfold State.loseLock
  repeat' first | with_reducible rfl | split | simp only [
    State.key_pathBreak, State.key_deliverEvent, State.key_ite, ite_self]

theorem State.key_lockedGroup (s : State) (p : Path) (g : Group) : (s.lockedGroup p g).key = s.key := by
  unfold State.lockedGroup
  repeat' first | with_reducible rfl | split | simp only [
    State.key_setPath, State.key_loseLock, State.key_assemble, State.key_phasingStep, State.key_turnAndClear,
    State.key_ite, ite_self]

theorem State.key_receive (s : State) (p : Path) (units : Byte) : (s.receive p units).key = s.key := by
  unfold State.receive
  repeat' first | with_reducible rfl | split | simp only [
    State.key_lockedGroup, State.key_searchGroup, State.key_post, State.key_ite, ite_self]

theorem State.key_receiveAll (s : State) (p : Path) (l : List Byte) : (s.receiveAll p l).key = s.key :=
  State.key_foldl _ (fun s u => State.key_receive s p u) l s

theorem State.key_lineTransition (s : State) (p : Path) (error : Int) (units : Nat) :
    (s.lineTransition p error units).key = s.key := by
  unfold State.lineTransition
  repeat' first | with_reducible rfl | split | simp only [
    State.key_setPath, State.key_drawn, State.key_ite, ite_self]

/-! ## Queue and inbound side -/

theorem State.key_reportOutcome (s : State) (slot : Nat) (o : ReportOutcome) :
    (s.reportOutcome slot o).key = s.key := by
  unfold State.reportOutcome
  repeat' first | with_reducible rfl | split | simp only [
    State.key_raiseAll, State.key_with_log, State.key_ite, ite_self]

theorem State.key_setEntries (s : State) (l : List Nat) : (s.setEntries l).key = s.key := by
  unfold State.setEntries
  repeat' first | with_reducible rfl | split | simp only [
    State.key_with_queue, State.key_ite, ite_self]

theorem State.key_joinQueue (s : State) (slot : Nat) : (s.joinQueue slot).key = s.key := by
  unfold State.joinQueue
  repeat' first | with_reducible rfl | split | simp only [
    State.key_setEntries, State.key_ite, ite_self]

theorem State.key_expedite (s : State) (slot : Nat) : (s.expedite slot).key = s.key := by
  unfold State.expedite
  repeat' first | with_reducible rfl | split | simp only [
    State.key_setEntries, State.key_ite, ite_self]

theorem State.key_leaveQueue (s : State) (slot : Nat) : (s.leaveQueue slot).key = s.key := by
  unfold State.leaveQueue
  repeat' first | with_reducible rfl | split | simp only [
    State.key_setEntries, State.key_ite, ite_self]

theorem State.key_trafficWaiting (s : State) : s.trafficWaiting.key = s.key := by
  unfold State.trafficWaiting
  repeat' first | with_reducible rfl | split | simp only [
    State.key_post, State.key_ite, ite_self]

theorem State.key_enqueue (s : State) (slot : Nat) : (s.enqueue slot).key = s.key := by
  unfold State.enqueue
  repeat' first | with_reducible rfl | split | simp only [
    State.key_modOutbound, State.key_joinQueue, State.key_trafficWaiting, State.key_with_ident, State.key_ite,
    ite_self]

theorem State.key_returnToQueue (s : State) (slot : Nat) : (s.returnToQueue slot).key = s.key := by
  unfold State.returnToQueue
  repeat' first | with_reducible rfl | split | simp only [
    State.key_modOutbound, State.key_trafficWaiting, State.key_ite, ite_self]

theorem State.key_failMessage (s : State) (slot : Nat) (why : FailReason) :
    (s.failMessage slot why).key = s.key := by
  unfold State.failMessage
  repeat' first | with_reducible rfl | split | simp only [
    State.key_modOutbound, State.key_leaveQueue, State.key_reportOutcome, State.key_raiseAll, State.key_ite,
    ite_self]

theorem State.key_deliverMessage (s : State) (slot : Nat) : (s.deliverMessage slot).key = s.key := by
  unfold State.deliverMessage
  repeat' first | with_reducible rfl | split | simp only [
    State.key_modOutbound, State.key_leaveQueue, State.key_reportOutcome, State.key_raiseAll, State.key_ite,
    ite_self]

theorem State.key_chargeEntry (s : State) (why : FailReason) (slot : Nat) :
    (s.chargeEntry why slot).key = s.key := by
  unfold State.chargeEntry
  repeat' first | with_reducible rfl | split | simp only [
    State.key_modOutbound, State.key_failMessage, State.key_ite, ite_self]

theorem State.key_attemptFailure (s : State) (why : FailReason) (station : Text) :
    (s.attemptFailure why station).key = s.key :=
  State.key_foldl _ (fun s n => State.key_chargeEntry s why n) _ s

theorem State.key_setTimer (s : State) (t : Option CheckTimer) : (s.setTimer t).key = s.key := by
  unfold State.setTimer
  repeat' first | with_reducible rfl | split | simp only [
    State.key_with_queue, State.key_ite, ite_self]

theorem State.key_checkTest (s : State) (atShip : Bool) : (s.checkTest atShip).key = s.key := by
  unfold State.checkTest
  repeat' first | with_reducible rfl | split | simp only [
    State.key_setTimer, State.key_trafficWaiting, State.key_with_queue, State.key_ite, ite_self]

theorem State.key_attemptEnd (s : State) (station : Text) : (s.attemptEnd station).key = s.key := by
  unfold State.attemptEnd
  repeat' first | with_reducible rfl | split | simp only [
    State.key_checkTest, State.key_with_queue, State.key_ite, ite_self]

theorem State.key_attemptStart (s : State) (station : Text) : (s.attemptStart station).key = s.key := by
  unfold State.attemptStart
  repeat' first | with_reducible rfl | split | simp only [
    State.key_with_queue, State.key_ite, ite_self]

theorem State.key_modInbound (s : State) (n : Nat) (f : Inbound → Inbound) : (s.modInbound n f).key = s.key := by
  unfold State.modInbound
  split <;> rfl

theorem State.key_inboundAppend (s : State) (n : Nat) (c : Byte) : (s.inboundAppend n c).key = s.key := by
  unfold State.inboundAppend
  repeat' first | with_reducible rfl | split | simp only [
    State.key_modInbound, State.key_with_store, State.key_ite, ite_self]

theorem State.key_raiseInbound (s : State) (who : Addressee) : (s.raiseInbound who).key = s.key := by
  unfold State.raiseInbound
  repeat' first | with_reducible rfl | split | simp only [
    State.key_raiseOn, State.key_ite, ite_self]

theorem State.key_inboundCreate (s : State) (l : Option FirstLine) : (s.inboundCreate l).key = s.key := by
  cases s; rfl

theorem State.key_inboundChar (s : State) (owed : List Nat) (c : Byte) : (s.inboundChar owed c).1.key = s.key := by
  have fold : ∀ (l : Text) (t : State),
      (l.foldl (fun t c => t.inboundAppend (t.inbound.current.getD 0) c) t).key = t.key := fun l t =>
    State.key_foldl _ (fun s c => State.key_inboundAppend s _ c) l t
  unfold State.inboundChar
  repeat' first
    | with_reducible rfl
    | split
    | simp only [fold, State.key_inboundCreate, State.key_inboundAppend, State.key_raiseInbound,
        State.key_modInbound, State.key_with_inbound]

theorem State.key_inboundChars (l : Text) (p : State × List Nat) :
    (l.foldl (fun (p : State × List Nat) c => p.1.inboundChar p.2 c) p).1.key = p.1.key := by
  induction l generalizing p with
  | nil => rfl
  | cons c l ih => rw [List.foldl_cons, ih, State.key_inboundChar]

theorem State.key_inboundOffer (s t : State) (text : Text) (owed : List Nat)
    (h : s.inboundOffer text = some (t, owed)) : t.key = s.key := by
  unfold State.inboundOffer at h
  simp only at h
  split at h
  · simp only [Option.some.injEq] at h
    rw [← show _ = t from congrArg Prod.fst h, State.key_inboundChars]
  · split at h
    · simp at h
    · simp only [Option.some.injEq, Prod.mk.injEq] at h
      rw [← h.1, State.key_lowTest, State.key_inboundChars, State.key_with_store]

theorem State.key_inboundEnd (s : State) : s.inboundEnd.key = s.key := by
  unfold State.inboundEnd
  repeat' first | with_reducible rfl | split | simp only [
    State.key_modInbound, State.key_raiseInbound, State.key_with_inbound, State.key_ite, ite_self]

/-! ## Traffic link -/

theorem State.key_setLink (s : State) (l : Link) : (s.setLink l).key = s.key := by
  unfold State.setLink
  repeat' first | with_reducible rfl | split | simp only [
    State.key_with_link, State.key_ite, ite_self]

theorem State.keyed_endLink (s : State) (e : LinkEnd) (hk : keyed s.key) : keyed (s.endLink e).key := by
  unfold State.endLink
  repeat' first | with_reducible exact hk | split | simp only [
    State.key_returnToQueue, State.key_attemptFailure, State.key_attemptEnd, State.key_inboundEnd,
    State.keyed_release, State.key_setLink, State.key_post, State.key_ite, hk]

theorem State.keyed_linkTest (s : State) (hk : keyed s.key) : keyed s.linkTest.key := by
  unfold State.linkTest
  repeat' first | with_reducible exact hk | split | simp only [
    State.key_attemptStart, State.key_setLink, State.keyed_claim, State.key_ite, hk]

theorem State.keyed_linkTunePosition (s : State) (k : Nat) (hk : keyed s.key) :
    keyed (s.linkTunePosition k).key := by
  unfold State.linkTunePosition
  repeat' first | with_reducible exact hk | split | simp only [
    State.key_setLink, State.keyed_tuneTo, State.keyed_endLink, State.key_ite, hk]

theorem State.keyed_linkGranted (s : State) (hk : keyed s.key) : keyed s.linkGranted.key := by
  unfold State.linkGranted
  repeat' first | with_reducible exact hk | split | simp only [
    State.key_setLink, State.keyed_linkTunePosition, State.key_ite, hk]

theorem State.keyed_sendCall (s : State) (hk : keyed s.key) : keyed s.sendCall.key := by
  unfold State.sendCall
  repeat' first | with_reducible exact hk | split | simp only [
    State.key_setLink, State.keyed_txRequest, State.keyed_offer, State.key_ite, hk]

theorem State.keyed_linkSettled (s : State) (hk : keyed s.key) : keyed s.linkSettled.key := by
  unfold State.linkSettled
  repeat' first | with_reducible exact hk | split | simp only [
    State.keyed_sendCall, State.key_ite, hk]

theorem State.keyed_linkTuneRefused (s : State) (hk : keyed s.key) : keyed s.linkTuneRefused.key := by
  unfold State.linkTuneRefused
  repeat' first | with_reducible exact hk | split | simp only [
    State.keyed_linkTunePosition, State.key_ite, hk]

theorem State.keyed_answerExpiry (s : State) (hk : keyed s.key) : keyed s.answerExpiry.key := by
  unfold State.answerExpiry
  repeat' first | with_reducible exact hk | split | simp only [
    State.key_setLink, State.key_score, State.keyed_sendCall, State.keyed_linkTunePosition, State.key_ite, hk]

theorem State.key_linkScore (s : State) (r : FrameRec) : (s.linkScore r).key = s.key := by
  unfold State.linkScore
  repeat' first | with_reducible rfl | split | simp only [
    State.key_score, State.key_ite, ite_self]

theorem State.keyed_linkFrameIn (s : State) (r : FrameRec) (hk : keyed s.key) : keyed (s.linkFrameIn r).key := by
  unfold State.linkFrameIn
  repeat' first | with_reducible exact hk | split | simp only [
    State.key_linkScore, State.key_setLink, State.keyed_endLink, State.key_ite, hk]

theorem State.key_linkPhasing (s : State) : s.linkPhasing.key = s.key := by
  unfold State.linkPhasing
  repeat' first | with_reducible rfl | split | simp only [
    State.key_setLink, State.key_ite, ite_self]

theorem State.key_takeUp (s : State) : s.takeUp.key = s.key := by
  unfold State.takeUp
  repeat' first | with_reducible rfl | split | simp only [
    State.key_modOutbound, State.key_setLink, State.key_ite, ite_self]

theorem State.key_addFrames (s : State) (receipts fuel : Nat) : (s.addFrames receipts fuel).key = s.key := by
  induction fuel generalizing s with
  | zero => rfl
  | succ n ih =>
    unfold State.addFrames
    repeat' first | with_reducible rfl | split | simp only [ih, State.key_setLink]

theorem State.keyed_compose (s : State) (noD : Bool) (hk : keyed s.key) : keyed (s.compose noD).key := by
  unfold State.compose
  repeat' first | with_reducible exact hk | split | simp only [
    State.keyed_endLink, State.key_takeUp, State.key_addFrames, State.key_setLink, State.keyed_txRequest,
    State.keyed_offer, State.key_ite, hk]

theorem State.keyed_linkCompleted (s : State) (hk : keyed s.key) : keyed s.linkCompleted.key := by
  unfold State.linkCompleted
  repeat' first | with_reducible exact hk | split | simp only [
    State.keyed_endLink, State.key_setLink, State.key_ite, hk]

theorem State.key_acknowledge (s : State) (e : Outstanding) : (s.acknowledge e).key = s.key := by
  unfold State.acknowledge
  repeat' first | with_reducible rfl | split | simp only [
    State.key_modOutbound, State.key_ite, ite_self]

theorem State.key_ackPass (s : State) : s.ackPass.1.key = s.key := by
  have fold : ∀ (l : List Outstanding) (t : State), (l.foldl State.acknowledge t).key = t.key := fun l t =>
    State.key_foldl _ State.key_acknowledge l t
  unfold State.ackPass
  repeat' first | with_reducible rfl | split | simp only [fold, State.key_setLink]

theorem State.key_takeSequenced (s : State) (r : FrameRec) : (s.takeSequenced r).key = s.key := by
  unfold State.takeSequenced
  repeat' first
    | with_reducible rfl
    | split
    | (rename_i h; exact (State.key_setLink _ _).trans (State.key_inboundOffer _ _ _ _ h))
    | simp only [State.key_setLink, State.key_raiseAll]

theorem State.key_receiptPass (s : State) (replies : List FrameRec) : (s.receiptPass replies).key = s.key := by
  unfold State.receiptPass
  repeat' first | with_reducible rfl | split | simp only [
    State.key_deliverMessage, State.key_setLink, State.key_modOutbound, State.key_failMessage,
    State.key_returnToQueue, State.key_ite, ite_self]

theorem State.keyed_coastBurstEnd (s : State) (h : keyed s.key) : keyed s.coastBurstEnd.key := by
  have fold : ∀ (l : List FrameRec) (t : State), (l.foldl State.takeSequenced t).key = t.key := fun l t =>
    State.key_foldl _ State.key_takeSequenced l t
  have h1 : keyed ((s.setLink { s.link with turnWait := false }).link.replies.foldl State.takeSequenced
      (s.setLink { s.link with turnWait := false }).ackPass.1).key := by
    rw [fold, State.key_ackPass, State.key_setLink]; exact h
  unfold State.coastBurstEnd
  simp only
  generalize (s.setLink { s.link with turnWait := false }).link.replies.foldl State.takeSequenced
      (s.setLink { s.link with turnWait := false }).ackPass.1 = u at h1 ⊢
  generalize (s.setLink { s.link with turnWait := false }).ackPass.2 = b
  have h2 : ∀ r, keyed (if b = true then u.receiptPass r else u).key := by
    intro r
    split
    · rw [State.key_receiptPass]; exact h1
    · exact h1
  split
  · exact State.keyed_endLink _ _ (h2 _)
  · exact State.keyed_compose _ _ (by rw [State.key_setLink]; exact h2 _)

theorem State.keyed_phasingExpiry (s : State) (h : keyed s.key) : keyed s.phasingExpiry.key := by
  have tail : ∀ u : State, keyed u.key → keyed
      (if u.link.state = .clearing then if 2 ≤ u.link.silent then u.endLink .cleared else u.compose true
       else if 3 ≤ u.link.silent then u.endLink .linkLost else u.compose true).key := by
    intro u h
    (repeat' split) <;> first | exact State.keyed_endLink _ _ h | exact State.keyed_compose _ _ h
  unfold State.phasingExpiry
  split
  · refine tail _ ?_
    rw [State.key_setLink]
    split
    · rw [State.key_score]; exact h
    · exact h
  · exact h

theorem State.keyed_linkTurn (s : State) (hk : keyed s.key) : keyed s.linkTurn.key := by
  unfold State.linkTurn
  repeat' first | with_reducible exact hk | split | simp only [
    State.key_setLink, State.keyed_compose, State.keyed_coastBurstEnd, State.key_ite, hk]

theorem State.keyed_turnExpiry (s : State) (hk : keyed s.key) : keyed s.turnExpiry.key := by
  unfold State.turnExpiry
  repeat' first | with_reducible exact hk | split | simp only [
    State.keyed_linkTurn, State.key_setLink, State.key_ite, hk]

theorem State.keyed_linkAbandon (s : State) (hk : keyed s.key) : keyed s.linkAbandon.key := by
  unfold State.linkAbandon
  repeat' first | with_reducible exact hk | split | simp only [
    State.key_setLink, State.keyed_trim, State.keyed_endLink, State.key_ite, hk]

theorem State.keyed_linkCut (s : State) (hk : keyed s.key) : keyed s.linkCut.key := by
  unfold State.linkCut
  repeat' first | with_reducible exact hk | split | simp only [
    State.keyed_endLink, State.key_ite, hk]

/-! ## Bulletins -/

theorem State.key_setBull (s : State) (b : BulletinEngine) : (s.setBull b).key = s.key := by
  unfold State.setBull
  repeat' first | with_reducible rfl | split | simp only [
    State.key_with_bull, State.key_ite, ite_self]

theorem State.key_countPart (s : State) (c : PartCount) : (s.countPart c).key = s.key := by
  unfold State.countPart
  repeat' first | with_reducible rfl | split | simp only [
    State.key_setBull, State.key_ite, ite_self]

theorem State.key_setRecv (s : State) (r : Option Reception) : (s.setRecv r).key = s.key := by
  unfold State.setRecv
  repeat' first | with_reducible rfl | split | simp only [
    State.key_setBull, State.key_ite, ite_self]

theorem State.key_partStored (s : State) : s.partStored.key = s.key := by
  unfold State.partStored
  repeat' first | with_reducible rfl | split | simp only [
    State.key_countPart, State.key_raiseAll, State.key_ite, ite_self]

theorem State.key_disposePart (s : State) (p : OpenPart) (taken : Nat) : (s.disposePart p taken).key = s.key := by
  unfold State.disposePart
  split
  · simp only [State.key_countPart, State.key_partDrop]
  · split
    · split
      · rename_i t h
        have ht := State.key_partAttachNew _ _ _ h
        simp only [State.key_ite, State.key_alarmEvent, State.key_raiseAll, State.key_partStored, ht, ite_self]
      · simp only [State.key_countPart, State.key_partDrop, State.key_raiseAll]
    · repeat' first
        | with_reducible rfl
        | split
        | simp only [State.key_countPart, State.key_partDrop, State.key_partStored, State.key_partAttach,
            State.key_partReplace]

theorem State.key_closePart (s : State) (addition : Nat) : (s.closePart addition).key = s.key := by
  unfold State.closePart
  repeat' first | with_reducible rfl | split | simp only [
    State.key_disposePart, State.key_setRecv, State.key_with_store, State.key_ite, ite_self]

theorem State.keyed_bullClaim (s : State) (i : Nat) (hk : keyed s.key) : keyed (s.bullClaim i).key := by
  unfold State.bullClaim
  repeat' first | with_reducible exact hk | split | simp only [
    State.key_setBull, State.keyed_claim, State.key_ite, hk]

theorem State.keyed_bullYield (s : State) (hk : keyed s.key) : keyed s.bullYield.key := by
  unfold State.bullYield
  repeat' first | with_reducible exact hk | split | simp only [
    State.keyed_claim, State.key_closePart, State.key_setBull, State.keyed_release, State.key_ite, hk]

theorem State.keyed_bullClaimFirst (s : State) (hk : keyed s.key) : keyed s.bullClaimFirst.key := by
  unfold State.bullClaimFirst
  repeat' first | with_reducible exact hk | split | simp only [
    State.keyed_bullClaim, State.key_ite, hk]

theorem State.keyed_bullReview (s : State) (hk : keyed s.key) : keyed s.bullReview.key := by
  unfold State.bullReview
  repeat' first | with_reducible exact hk | split | simp only [
    State.keyed_claim, State.keyed_bullClaimFirst, State.keyed_bullYield, State.key_modWindow, State.key_ite, hk]

theorem State.key_missWindow (s : State) (i : Nat) : (s.missWindow i).key = s.key := by
  unfold State.missWindow
  repeat' first | with_reducible rfl | split | simp only [
    State.key_modWindow, State.key_raiseOn, State.key_ite, ite_self]

theorem State.keyed_finishWindow (s : State) (i : Nat) (hk : keyed s.key) : keyed (s.finishWindow i).key := by
  unfold State.finishWindow
  repeat' first | with_reducible exact hk | split | simp only [
    State.keyed_claim, State.keyed_bullYield, State.key_modWindow, State.key_ite, hk]

theorem State.keyed_bullUnserved (s : State) (w : Nat) (hk : keyed s.key) : keyed (s.bullUnserved w).key := by
  unfold State.bullUnserved
  repeat' first | with_reducible exact hk | split | simp only [
    State.keyed_bullYield, State.key_missWindow, State.keyed_bullReview, State.key_ite, hk]

theorem State.keyed_bullGranted (s : State) (c : Claimant) (hk : keyed s.key) : keyed (s.bullGranted c).key := by
  unfold State.bullGranted
  repeat' first | with_reducible exact hk | split | simp only [
    State.keyed_claim, State.key_modWindow, State.keyed_tuneTo, State.keyed_bullUnserved, State.key_ite, hk]

theorem State.key_bullSettled (s : State) : s.bullSettled.key = s.key := by
  unfold State.bullSettled
  repeat' first | with_reducible rfl | split | simp only [
    State.key_setRecv, State.key_ite, ite_self]

theorem State.keyed_bullTuneRefused (s : State) (hk : keyed s.key) : keyed s.bullTuneRefused.key := by
  unfold State.bullTuneRefused
  repeat' first | with_reducible exact hk | split | simp only [
    State.keyed_bullUnserved, State.key_ite, hk]

theorem State.keyed_bullInterrupted (s : State) (hk : keyed s.key) : keyed s.bullInterrupted.key := by
  unfold State.bullInterrupted
  repeat' first | with_reducible exact hk | split | simp only [
    State.keyed_bullYield, State.key_modWindow, State.keyed_bullReview, State.key_ite, hk]

theorem State.keyed_endWindow (s : State) (minute : Int) (i : Nat) (hk : keyed s.key) :
    keyed (s.endWindow minute i).key := by
  unfold State.endWindow
  repeat' first | with_reducible exact hk | split | simp only [
    State.keyed_finishWindow, State.key_missWindow, State.key_ite, hk]

theorem State.keyed_bullMinute (s : State) (minute : Reading) (h : keyed s.key) : keyed (s.bullMinute minute).key := by
  unfold State.bullMinute
  split
  · exact h
  · refine State.keyed_bullReview _ ?_
    refine State.keyed_foldl _ (fun s i hs => State.keyed_endWindow s (instant minute) i hs) _ _ ?_
    rw [State.key_with_windows]
    exact h

theorem State.keyed_compareWindow (s : State) (i : Nat) (hk : keyed s.key) : keyed (s.compareWindow i).key := by
  unfold State.compareWindow
  repeat' first | with_reducible exact hk | split | simp only [
    State.keyed_finishWindow, State.key_missWindow, State.key_ite, hk]

theorem State.keyed_bullDueTest (s : State) (hk : keyed s.key) : keyed s.bullDueTest.key := by
  unfold State.bullDueTest
  repeat' first | with_reducible exact hk | split | simp only [
    State.keyed_bullReview, State.key_with_windows, State.key_ite, hk]

theorem State.keyed_bullTimeSet (s : State) (h : keyed s.key) : keyed s.bullTimeSet.key :=
  State.keyed_bullDueTest _ (State.keyed_foldl _ (fun s i hs => State.keyed_compareWindow s i hs) _ s h)

theorem State.keyed_bullUnset (s : State) (hk : keyed s.key) : keyed s.bullUnset.key := by
  unfold State.bullUnset
  repeat' first | with_reducible exact hk | split | simp only [
    State.keyed_bullYield, State.keyed_bullReview, State.key_with_windows, State.key_ite, hk]

theorem State.keyed_bullStart (s : State) (hk : keyed s.key) : keyed s.bullStart.key := by
  unfold State.bullStart
  repeat' first | with_reducible exact hk | split | simp only [
    State.keyed_bullDueTest, State.key_ite, hk]

theorem State.key_bullHeader (s : State) (w : Nat) (r : FrameRec) : (s.bullHeader w r).key = s.key := by
  unfold State.bullHeader
  repeat' first | with_reducible rfl | split | simp only [
    State.key_countPart, State.key_partOpen, State.key_setRecv, State.key_ite, ite_self]

theorem State.key_bullBlock (s : State) (expected taken : Nat) (r : FrameRec) :
    (s.bullBlock expected taken r).key = s.key := by
  unfold State.bullBlock
  repeat' first
    | with_reducible rfl
    | split
    | (rename_i h; exact (State.key_setRecv _ _).trans (State.key_partExtend _ _ _ _ h))
    | simp only [State.key_countPart, State.key_setRecv, State.key_partDrop, State.key_raiseAll]

theorem State.key_bullScore (s : State) (w : Nat) (r : FrameRec) : (s.bullScore w r).key = s.key := by
  unfold State.bullScore
  repeat' first | with_reducible rfl | split | simp only [
    State.key_score, State.key_ite, ite_self]

theorem State.key_bullFrame (s : State) (r : FrameRec) : (s.bullFrame r).key = s.key := by
  unfold State.bullFrame
  repeat' first | with_reducible rfl | split | simp only [
    State.key_bullScore, State.key_bullBlock, State.key_closePart, State.key_bullHeader, State.key_ite, ite_self]

/-! ## Distress -/

theorem State.key_setOwn (s : State) (o : OwnAlert) : (s.setOwn o).key = s.key := by
  unfold State.setOwn
  repeat' first | with_reducible rfl | split | simp only [
    State.key_with_own, State.key_ite, ite_self]

theorem State.key_setOwnState (s : State) (st : AlertState) : (s.setOwnState st).key = s.key := by
  unfold State.setOwnState
  repeat' first | with_reducible rfl | split | simp only [
    State.key_setOwn, State.key_raiseAll, State.key_alarmActive, State.key_post, State.key_ite, ite_self]

theorem State.keyed_cycleTune (s : State) (c : Cycle) (pos : Nat) (hk : keyed s.key) :
    keyed (s.cycleTune c pos).key := by
  unfold State.cycleTune
  repeat' first | with_reducible exact hk | split | simp only [
    State.keyed_tuneTo, State.key_with_cycle, State.key_ite, hk]

theorem State.keyed_beginCycle (s : State) (k : CycleKind) (hk : keyed s.key) : keyed (s.beginCycle k).key := by
  unfold State.beginCycle
  repeat' first | with_reducible exact hk | split | simp only [
    State.key_setOwn, State.key_raiseAll, State.keyed_release, State.keyed_cycleTune, State.keyed_claim,
    State.key_with_cycle, State.key_with_frameBuf, State.key_with_cycleBuf, State.key_ite, hk]

theorem State.keyed_callCycle (s : State) (k : CycleKind) (hk : keyed s.key) : keyed (s.callCycle k).key := by
  unfold State.callCycle
  repeat' first | with_reducible exact hk | split | simp only [
    State.keyed_beginCycle, State.key_with_cycle, State.key_ite, hk]

theorem State.keyed_endCycle (s : State) (c : Cycle) (hk : keyed s.key) : keyed (s.endCycle c).key := by
  unfold State.endCycle
  repeat' first | with_reducible exact hk | split | simp only [
    State.keyed_release, State.key_setOwnState, State.key_setOwn, State.key_with_cycle, State.key_with_frameBuf,
    State.key_with_cycleBuf, State.key_ite, hk]

theorem State.keyed_nextChannel (s : State) (c : Cycle) (hk : keyed s.key) : keyed (s.nextChannel c).key := by
  unfold State.nextChannel
  repeat' first | with_reducible exact hk | split | simp only [
    State.keyed_beginCycle, State.keyed_endCycle, State.keyed_cycleTune, State.key_ite, hk]

theorem State.keyed_cycleGranted (s : State) (hk : keyed s.key) : keyed s.cycleGranted.key := by
  unfold State.cycleGranted
  repeat' first | with_reducible exact hk | split | simp only [
    State.keyed_cycleTune, State.key_ite, hk]

theorem State.keyed_cycleSettled (s : State) (hk : keyed s.key) : keyed s.cycleSettled.key := by
  unfold State.cycleSettled
  repeat' first | with_reducible exact hk | split | simp only [
    State.keyed_txRequest, State.key_ite, hk]

theorem State.keyed_cycleKeyed (s : State) (hk : keyed s.key) : keyed s.cycleKeyed.key := by
  unfold State.cycleKeyed
  repeat' first | with_reducible exact hk | split | simp only [
    State.keyed_offer, State.key_with_cycle, State.key_ite, hk]

theorem State.keyed_channelDone (s : State) (hk : keyed s.key) : keyed s.channelDone.key := by
  unfold State.channelDone
  repeat' first | with_reducible exact hk | split | simp only [
    State.keyed_nextChannel, State.key_ite, hk]

theorem State.keyed_stopAlertCycle (s : State) (hk : keyed s.key) : keyed s.stopAlertCycle.key := by
  unfold State.stopAlertCycle
  repeat' first | with_reducible exact hk | split | simp only [
    State.keyed_endCycle, State.key_with_cycle, State.key_ite, hk]

theorem State.keyed_newAlert (s : State) (nature : Byte) (hk : keyed s.key) : keyed (s.newAlert nature).key := by
  unfold State.newAlert
  repeat' first | with_reducible exact hk | split | simp only [
    State.key_setOwn, State.key_setOwnState, State.keyed_callCycle, State.key_ite, hk]

theorem State.key_keyPress (s : State) : s.keyPress.key = s.key := by
  unfold State.keyPress
  repeat' first | with_reducible rfl | split | simp only [
    State.key_setOwn, State.key_setOwnState, State.key_ite, ite_self]

theorem State.key_keyRelease (s : State) : s.keyRelease.key = s.key := by
  unfold State.keyRelease
  repeat' first | with_reducible rfl | split | simp only [
    State.key_setOwn, State.key_setOwnState, State.key_ite, ite_self]

theorem State.keyed_keyHoldExpiry (s : State) (hk : keyed s.key) : keyed s.keyHoldExpiry.key := by
  unfold State.keyHoldExpiry
  repeat' first | with_reducible exact hk | split | simp only [
    State.keyed_newAlert, State.key_ite, hk]

theorem State.keyed_repeatExpiry (s : State) (hk : keyed s.key) : keyed s.repeatExpiry.key := by
  unfold State.repeatExpiry
  repeat' first | with_reducible exact hk | split | simp only [
    State.key_setOwn, State.keyed_beginCycle, State.key_with_cycle, State.key_ite, hk]

theorem State.key_cancelReturn (s : State) : s.cancelReturn.key = s.key := by
  unfold State.cancelReturn
  repeat' first | with_reducible rfl | split | simp only [
    State.key_setOwn, State.key_setOwnState, State.key_ite, ite_self]

theorem State.keyed_cancelWindowExpiry (s : State) (hk : keyed s.key) : keyed s.cancelWindowExpiry.key := by
  unfold State.cancelWindowExpiry
  repeat' first | with_reducible exact hk | split | simp only [
    State.key_cancelReturn, State.keyed_beginCycle, State.key_ite, hk]

theorem State.keyed_cancelRetryExpiry (s : State) (hk : keyed s.key) : keyed s.cancelRetryExpiry.key := by
  unfold State.cancelRetryExpiry
  repeat' first | with_reducible exact hk | split | simp only [
    State.key_setOwn, State.keyed_beginCycle, State.key_ite, hk]

theorem State.key_testReplyExpiry (s : State) : s.testReplyExpiry.key = s.key := by
  unfold State.testReplyExpiry
  repeat' first | with_reducible rfl | split | simp only [
    State.key_setOwn, State.key_ite, ite_self]

theorem State.keyed_acknowledgeOwn (s : State) (coast : Text) (hk : keyed s.key) :
    keyed (s.acknowledgeOwn coast).key := by
  unfold State.acknowledgeOwn
  repeat' first | with_reducible exact hk | split | simp only [
    State.key_setOwn, State.key_setOwnState, State.keyed_stopAlertCycle, State.key_raiseAll, State.key_ite, hk]

theorem State.key_testReply (s : State) (coast : Text) : (s.testReply coast).key = s.key := by
  unfold State.testReply
  repeat' first | with_reducible rfl | split | simp only [
    State.key_setOwn, State.key_raiseAll, State.key_ite, ite_self]

theorem State.key_hear (s : State) (kind : HeardKind) (n : HeardNews) (t : Stamp) :
    (s.hear kind n t).key = s.key := by
  unfold State.hear
  repeat' first | with_reducible rfl | split | simp only [
    State.key_raiseAll, State.key_alarmEvent, State.key_with_heard, State.key_with_heardCounts, State.key_ite,
    ite_self]

theorem State.key_silenceOrder (s : State) (coast : Text) : (s.silenceOrder coast).key = s.key := by
  unfold State.silenceOrder
  repeat' first | with_reducible rfl | split | simp only [
    State.key_raiseAll, State.key_post, State.key_with_silence, State.key_ite, ite_self]

theorem State.key_silenceEnd (s : State) : s.silenceEnd.key = s.key := by
  unfold State.silenceEnd
  repeat' first | with_reducible rfl | split | simp only [
    State.key_raiseAll, State.key_post, State.key_with_silence, State.key_ite, ite_self]

theorem State.key_silenceResume (s : State) (coast : Text) : (s.silenceResume coast).key = s.key := by
  unfold State.silenceResume
  repeat' first | with_reducible rfl | split | simp only [
    State.key_silenceEnd, State.key_ite, ite_self]

theorem State.key_silenceExpiry (s : State) : s.silenceExpiry.key = s.key := by
  unfold State.silenceExpiry
  repeat' first | with_reducible rfl | split | simp only [
    State.key_silenceEnd, State.key_ite, ite_self]

theorem State.key_testHeard (s : State) : s.testHeard.key = s.key := by
  unfold State.testHeard
  repeat' first | with_reducible rfl | split | simp only [
    State.key_with_heardCounts, State.key_ite, ite_self]

theorem State.key_malformed (s : State) : s.malformed.key = s.key := by
  unfold State.malformed
  repeat' first | with_reducible rfl | split | simp only [
    State.key_with_heardCounts, State.key_ite, ite_self]

theorem State.keyed_alertMsg (s : State) (m : AlertMsg) (t : Stamp) (hk : keyed s.key) :
    keyed (s.alertMsg m t).key := by
  unfold State.alertMsg
  repeat' first | with_reducible exact hk | split | simp only [
    State.key_hear, State.key_testHeard, State.key_testReply, State.keyed_acknowledgeOwn, State.key_silenceOrder,
    State.key_silenceResume, State.key_ite, hk]

theorem State.keyed_distressFrame (s : State) (r : FrameRec) (hk : keyed s.key) : keyed (s.distressFrame r).key := by
  unfold State.distressFrame
  repeat' first | with_reducible exact hk | split | simp only [
    State.keyed_alertMsg, State.key_malformed, State.key_ite, hk]

/-! ## Hand-offs -/

theorem State.keyed_onGranted (s : State) (c : Claimant) (hk : keyed s.key) : keyed (s.onGranted c).key := by
  unfold State.onGranted
  repeat' first | with_reducible exact hk | split | simp only [
    State.keyed_cycleGranted, State.keyed_bullGranted, State.keyed_linkGranted, State.keyed_tuneGranted,
    State.keyed_scanGranted, State.key_ite, hk]

theorem State.keyed_onSettled (s : State) (c : Claimant) (hk : keyed s.key) : keyed (s.onSettled c).key := by
  unfold State.onSettled
  repeat' first | with_reducible exact hk | split | simp only [
    State.keyed_cycleSettled, State.key_bullSettled, State.keyed_linkSettled, State.keyed_txRequest,
    State.key_ite, hk]

theorem State.keyed_onTuneRefused (s : State) (c : Claimant) (hk : keyed s.key) : keyed (s.onTuneRefused c).key := by
  unfold State.onTuneRefused
  repeat' first | with_reducible exact hk | split | simp only [
    State.keyed_channelDone, State.keyed_bullTuneRefused, State.keyed_linkTuneRefused, State.keyed_release,
    State.key_ite, hk]

theorem State.keyed_onBlocked (s : State) (c : Claimant) (hk : keyed s.key) : keyed (s.onBlocked c).key := by
  unfold State.onBlocked
  repeat' first | with_reducible exact hk | split | simp only [
    State.keyed_channelDone, State.keyed_linkAbandon, State.keyed_release, State.key_ite, hk]

theorem State.keyed_onKeyed (s : State) (c : Claimant) (hk : keyed s.key) : keyed (s.onKeyed c).key := by
  unfold State.onKeyed
  repeat' first | with_reducible exact hk | split | simp only [
    State.keyed_cycleKeyed, State.key_ite, hk]

theorem State.keyed_onCompleted (s : State) (c : Claimant) (hk : keyed s.key) : keyed (s.onCompleted c).key := by
  unfold State.onCompleted
  repeat' first | with_reducible exact hk | split | simp only [
    State.keyed_channelDone, State.keyed_linkCompleted, State.key_ite, hk]

theorem State.keyed_onKeyFault (s : State) (c : Claimant) (hk : keyed s.key) : keyed (s.onKeyFault c).key := by
  unfold State.onKeyFault
  repeat' first | with_reducible exact hk | split | simp only [
    State.keyed_channelDone, State.keyed_linkCut, State.keyed_release, State.key_ite, hk]

theorem State.keyed_onReleaseRequest (s : State) (c : Claimant) (hk : keyed s.key) :
    keyed (s.onReleaseRequest c).key := by
  unfold State.onReleaseRequest
  repeat' first | with_reducible exact hk | split | simp only [
    State.keyed_bullInterrupted, State.keyed_linkAbandon, State.keyed_release, State.keyed_scanRelease,
    State.key_ite, hk]

theorem State.keyed_onRevoked (s : State) (c : Claimant) (hk : keyed s.key) : keyed (s.onRevoked c).key := by
  unfold State.onRevoked
  repeat' first | with_reducible exact hk | split | simp only [
    State.keyed_bullInterrupted, State.keyed_linkCut, State.key_with_scanner, State.key_ite, hk]

theorem State.keyed_onFrame (s : State) (p : Path) (h : Option Claimant) (r : FrameRec) (hk : keyed s.key) :
    keyed (s.onFrame p h r).key := by
  unfold State.onFrame
  repeat' first | with_reducible exact hk | split | simp only [
    State.keyed_distressFrame, State.key_watchMoveOn, State.keyed_linkFrameIn, State.key_bullFrame,
    State.key_ite, hk]

theorem State.keyed_onPhasing (s : State) (p : Path) (h : Option Claimant) (hk : keyed s.key) :
    keyed (s.onPhasing p h).key := by
  unfold State.onPhasing
  repeat' first | with_reducible exact hk | split | simp only [
    State.key_linkPhasing, State.keyed_scanPhasing, State.key_with_watch, State.key_ite, hk]

theorem State.keyed_onTurn (s : State) (p : Path) (h : Option Claimant) (hk : keyed s.key) :
    keyed (s.onTurn p h).key := by
  unfold State.onTurn
  repeat' first | with_reducible exact hk | split | simp only [
    State.keyed_linkTurn, State.key_ite, hk]

theorem State.key_onClear (s : State) (p : Path) (h : Option Claimant) : (s.onClear p h).key = s.key := by
  unfold State.onClear
  repeat' first | with_reducible rfl | split | simp only [
    State.key_closePart, State.key_ite, ite_self]

theorem State.key_onLockLost (s : State) (h : Option Claimant) : (s.onLockLost h).key = s.key := by
  unfold State.onLockLost
  repeat' first | with_reducible rfl | split | simp only [
    State.key_closePart, State.key_ite, ite_self]

theorem State.keyed_handle (s : State) (g : Signal) (hk : keyed s.key) : keyed (s.handle g).key := by
  unfold State.handle
  repeat' first | with_reducible exact hk | split | simp only [
    State.keyed_onGranted, State.keyed_onSettled, State.keyed_onTuneRefused, State.keyed_onBlocked,
    State.keyed_onKeyed, State.keyed_onCompleted, State.keyed_keyFault, State.keyed_onKeyFault,
    State.keyed_onReleaseRequest, State.keyed_onRevoked, State.keyed_onFrame, State.keyed_onPhasing,
    State.keyed_onTurn, State.key_onClear, State.key_onLockLost, State.keyed_scanPhasingGone,
    State.keyed_scanCheck, State.keyed_linkAbandon, State.keyed_tuneGateClosed, State.keyed_linkTest,
    State.key_ite, hk]

theorem State.keyed_drain (fuel : Nat) (s : State) (h : keyed s.key) : keyed (s.drain fuel).key := by
  induction fuel generalizing s with
  | zero => unfold State.drain; rw [State.key_with_signals]; exact h
  | succ n ih =>
    unfold State.drain
    split
    · exact h
    · exact ih _ (State.keyed_handle _ _ (by rw [State.key_with_signals]; exact h))

theorem State.keyed_settle (s : State) (h : keyed s.key) : keyed s.settle.key := State.keyed_drain _ s h

/-! ## Clock -/

theorem State.key_setTimeState (s : State) (t : TimeState) : (s.setTimeState t).key = s.key := by
  unfold State.setTimeState
  repeat' first | with_reducible rfl | split | simp only [
    State.key_raiseAll, State.key_post, State.key_with_time, State.key_ite, ite_self]

theorem State.key_qualified (s : State) : s.qualified.key = s.key := by
  unfold State.qualified
  repeat' first | with_reducible rfl | split | simp only [
    State.key_setTimeState, State.key_ite, ite_self]

theorem State.key_disqualified (s : State) : s.disqualified.key = s.key := by
  unfold State.disqualified
  repeat' first | with_reducible rfl | split | simp only [
    State.key_setTimeState, State.key_ite, ite_self]

theorem State.key_judgeSecond (s : State) (good : Bool) : (s.judgeSecond good).key = s.key := by
  unfold State.judgeSecond
  repeat' first | with_reducible rfl | split | simp only [
    State.key_qualified, State.key_disqualified, State.key_with_time, State.key_ite, ite_self]

theorem State.keyed_takeMinute (s : State) (hk : keyed s.key) : keyed s.takeMinute.key := by
  unfold State.takeMinute
  repeat' first | with_reducible exact hk | split | simp only [
    State.keyed_bullMinute, State.key_with_time, State.key_ite, hk]

theorem State.key_elapsedOn (s : State) : s.elapsedOn.key = s.key := by
  unfold State.elapsedOn
  repeat' first | with_reducible rfl | split | simp only [
    State.key_drawn, State.key_with_time, State.key_ite, ite_self]

theorem State.keyed_wrapped (s : State) (hk : keyed s.key) : keyed s.wrapped.key := by
  unfold State.wrapped
  repeat' first | with_reducible exact hk | split | simp only [
    State.key_setTimeState, State.keyed_bullUnset, State.key_with_time, State.key_ite, hk]

theorem State.keyed_tick (s : State) (hk : keyed s.key) : keyed s.tick.key := by
  unfold State.tick
  repeat' first | with_reducible exact hk | split | simp only [
    State.keyed_takeMinute, State.key_elapsedOn, State.keyed_wrapped, State.key_with_time, State.key_ite, hk]

theorem State.key_takeExpiry (s : State) (e : HeldExpiry) : (s.takeExpiry e).key = s.key := by
  unfold State.takeExpiry
  repeat' first | with_reducible rfl | split | simp only [
    State.key_expirySweep, State.key_modOutbound, State.key_trafficWaiting, State.key_setTimer,
    State.key_checkTest, State.key_silenceExpiry, State.key_with_channels, State.key_ite, ite_self]

theorem State.keyed_retainedExpiry (s : State) (e : HeldExpiry) (hk : keyed s.key) :
    keyed (s.retainedExpiry e).key := by
  unfold State.retainedExpiry
  repeat' first | with_reducible exact hk | split | simp only [
    State.key_takeExpiry, State.keyed_settle, State.key_with_supply, State.key_ite, hk]

/-! ## Resets -/

theorem State.key_soundOwners (s : State) : s.soundOwners.key = s.key := by
  unfold State.soundOwners
  repeat' first | with_reducible rfl | split | simp only [
    State.key_alarmActive, State.key_ite, ite_self]

theorem State.keyed_warmOwn (s : State) (hk : keyed s.key) : keyed s.warmOwn.key := by
  unfold State.warmOwn
  repeat' first | with_reducible exact hk | split | simp only [
    State.keyed_beginCycle, State.key_cancelReturn, State.key_setOwn, State.key_setOwnState, State.key_ite, hk]

theorem State.key_pressHeld (s : State) : s.pressHeld.key = s.key := by
  unfold State.pressHeld
  repeat' first | with_reducible rfl | split | simp only [
    State.key_keyPress, State.key_ite, ite_self]

theorem State.keyed_resetComplete (s : State) (hk : keyed s.key) : keyed s.resetComplete.key := by
  unfold State.resetComplete
  repeat' first | with_reducible exact hk | split | simp only [
    State.keyed_bullStart, State.key_post, State.key_pressHeld, State.key_watchStepAfter, State.key_ite, hk]

theorem resting_reset (k : Bool) : resting (monitorAfterReset k, TxPath.reset, Arbiter.reset) := by
  cases k <;> exact ⟨by decide, by decide, rfl, rfl, by decide⟩

theorem State.key_deliverHeld (s : State) : s.deliverHeld.key = s.key :=
  (State.key_foldl _ (fun s e => State.key_takeExpiry s e) _ _).trans (State.key_with_supply _ _)

theorem State.keyed_warmReset (s : State) (straps : Straps) : keyed (s.warmReset straps).key := by
  have h : keyed (s.warmValues straps).key := keyed_of_resting (resting_reset _)
  unfold State.warmReset
  refine State.keyed_settle _ (State.keyed_resetComplete _ ?_)
  rw [State.key_deliverHeld]
  refine State.keyed_warmOwn _ ?_
  rw [State.key_soundOwners, State.key_lowTest]
  split
  · rw [State.key_setTimeState]; exact h
  · exact h

theorem State.keyed_coldStart (s : State) (straps : Straps) : keyed (s.coldStart straps).key :=
  State.keyed_settle _ (State.keyed_resetComplete _ (keyed_of_resting (resting_reset _)))

/-! ## Radio steps -/

theorem State.keyed_releaseLimitEnd (s : State) (hk : keyed s.key) : keyed s.releaseLimitEnd.key := by
  unfold State.releaseLimitEnd
  repeat' first | with_reducible exact hk | split | simp only [
    State.keyed_revoke, State.key_ite, hk]

theorem State.keyed_settleEnd (s : State) (h : keyed s.key) : keyed s.settleEnd.key := by
  unfold State.settleEnd
  split
  · rename_i g hg
    split
    · rename_i hp
      rw [State.key_post, State.key_setPhase]
      have hr : resting s.key := resting_of_keyed h (by simp [State.key, hg, hp])
      exact keyed_of_resting (resting_arb hr (by simp [hg]))
    · exact h
  · exact h

theorem State.keyed_transmissionEnd (s : State) (hk : keyed s.key) : keyed s.transmissionEnd.key := by
  unfold State.transmissionEnd
  repeat' first | with_reducible exact hk | split | simp only [
    State.keyed_completePath, State.key_shifts, State.key_ite, hk]

theorem State.keyed_symbolEnd (s : State) (h : keyed s.key) : keyed s.symbolEnd.key := by
  obtain ⟨h1, h2, h3, h4⟩ := h
  have hb : s.tx.advance.heldBack = s.tx.heldBack := by
    unfold TxPath.advance; split <;> rfl
  have hl : s.tx.advance.list ≠ [] → s.tx.list ≠ [] := by
    unfold TxPath.advance
    split
    · exact id
    · rename_i e; intro _ e'; rw [e] at e'; cases e'
  unfold State.symbolEnd
  split
  · rw [State.key_shifts]
    refine ⟨?_, ?_, fun e => h3 (hl e), h4⟩
    · simp only [State.key, hb]; exact h1
    · simp only [State.key, hb]; exact h2
  · exact ⟨h1, h2, h3, h4⟩

theorem State.keyed_unitEnd (s : State) (h : keyed s.key) : keyed s.unitEnd.key := by
  unfold State.unitEnd
  split
  · rw [State.key_shiftTo]; exact h
  · exact h

theorem State.key_senseTo (s : State) (on : Bool) : (s.senseTo on).key = s.key := by
  unfold State.senseTo
  repeat' first | with_reducible rfl | split | simp only [
    State.key_with_pins, State.key_ite, ite_self]

theorem State.keyed_responseWaitEnd (s : State) (h : keyed s.key) : keyed s.responseWaitEnd.key := by
  unfold State.responseWaitEnd
  split
  · refine State.keyed_keyFault _ _ fun hp => ?_
    have hr := resting_of_keyed h hp
    exact ⟨(KeyState.released_off _).1, (KeyState.released_off _).2, hr.2.2.1, hr.2.2.2.1, hp⟩
  · exact h

theorem State.keyed_dropWaitEnd (s : State) (h : keyed s.key) : keyed s.dropWaitEnd.key := by
  unfold State.dropWaitEnd
  split
  · refine State.keyed_keyFault _ _ fun hp => ?_
    have hr := resting_of_keyed h hp
    exact ⟨by simp [KeyState.released], by simp [KeyState.released], hr.2.2.1, hr.2.2.2.1, hp⟩
  · exact h

theorem State.keyed_carrierEnd (s : State) (hk : keyed s.key) : keyed s.carrierEnd.key := by
  unfold State.carrierEnd
  repeat' first | with_reducible exact hk | split | simp only [
    State.keyed_release, State.key_ite, hk]

theorem State.keyed_dwellEnd (s : State) (hk : keyed s.key) : keyed s.dwellEnd.key := by
  unfold State.dwellEnd
  repeat' first | with_reducible exact hk | split | simp only [
    State.keyed_scanScheduledEnd, State.key_ite, hk]

theorem State.key_takeLevel (s : State) (c : Conversion) (result : Byte) : (s.takeLevel c result).key = s.key := by
  unfold State.takeLevel
  repeat' first | with_reducible rfl | split | simp only [
    State.key_modChannel, State.key_score, State.key_ite, ite_self]

theorem State.key_conversionEnd (s : State) (result : Byte) : (s.conversionEnd result).key = s.key := by
  unfold State.conversionEnd
  repeat' first | with_reducible rfl | split | simp only [
    State.key_takeLevel, State.key_with_sampler, State.key_ite, ite_self]

theorem State.key_watchSettleEnd (s : State) : s.watchSettleEnd.key = s.key := by
  unfold State.watchSettleEnd
  repeat' first | with_reducible rfl | split | simp only [
    State.key_with_watch, State.key_ite, ite_self]

theorem State.key_watchDwellEnd (s : State) : s.watchDwellEnd.key = s.key := by
  unfold State.watchDwellEnd
  repeat' first | with_reducible rfl | split | simp only [
    State.key_watchMoveOn, State.key_ite, ite_self]

theorem State.key_watchHoldEnd (s : State) : s.watchHoldEnd.key = s.key := by
  unfold State.watchHoldEnd
  repeat' first | with_reducible rfl | split | simp only [
    State.key_watchMoveOn, State.key_ite, ite_self]

/-! ## Receive steps -/

/-! ## Commands -/

theorem State.key_setOverrun (s : State) (p : Port) : (s.setOverrun p).key = s.key := by
  unfold State.setOverrun
  repeat' first | with_reducible rfl | split | simp only [
    State.key_setPort, State.key_ite, ite_self]

theorem State.key_clockedThrough (s : State) (p : Port) (n : Nat) (foreign : Bool) :
    (s.clockedThrough p n foreign).key = s.key := by
  unfold State.clockedThrough
  repeat' first | with_reducible rfl | split | simp only [
    State.key_setOverrun, State.key_setPort, State.key_ite, ite_self]

theorem State.key_clockByte (s : State) (p : Port) (data : Byte) : (s.clockByte p data).key = s.key := by
  unfold State.clockByte
  repeat' first | with_reducible rfl | split | simp only [
    State.key_setOverrun, State.key_setPort, State.key_ite, ite_self]

theorem State.key_responseRead (s : State) (p : Port) : (s.responseRead p).key = s.key := by
  unfold State.responseRead
  repeat' first | with_reducible rfl | split | simp only [
    State.key_setPort, State.key_ite, ite_self]

theorem State.key_transferReleased (s : State) (p : Port) : (s.transferReleased p).key = s.key := by
  unfold State.transferReleased
  repeat' first | with_reducible rfl | split | simp only [
    State.key_setPort, State.key_ite, ite_self]

theorem State.keyed_setClock (s : State) (r : Reading) (hk : keyed s.key) : keyed (s.setClock r).key := by
  unfold State.setClock
  repeat' first | with_reducible exact hk | split | simp only [
    State.keyed_takeMinute, State.key_setTimeState, State.key_qualified, State.keyed_bullTimeSet,
    State.key_with_time, State.key_ite, hk]

theorem State.key_holdIf (s : State) (p : Port) (hold : Bool) (r : HoldRef) : (s.holdIf p hold r).key = s.key := by
  unfold State.holdIf
  repeat' first | with_reducible rfl | split | simp only [
    State.key_setHold, State.key_ite, ite_self]

theorem State.key_watchRewritten (s : State) (index : Nat) : (s.watchRewritten index).key = s.key := by
  unfold State.watchRewritten
  repeat' first | with_reducible rfl | split | simp only [
    State.key_watchStepTo, State.key_watchStepAfter, State.key_ite, ite_self]

theorem State.key_voidConversion (s : State) (index : Nat) : (s.voidConversion index).key = s.key := by
  unfold State.voidConversion
  repeat' first | with_reducible rfl | split | simp only [
    State.key_with_sampler, State.key_ite, ite_self]

theorem State.key_rewriteChannel (s : State) (port : Port) (index : Nat) (new : Channel) :
    (s.rewriteChannel port index new).key = s.key := by
  unfold State.rewriteChannel
  repeat' first | with_reducible rfl | split | simp only [
    State.key_modChannel, State.key_writtenBy, State.key_voidConversion, State.key_watchRewritten,
    State.key_post, State.key_ite, ite_self]

theorem State.key_faultCleared (s : State) (f : FaultRecord) : (s.faultCleared f).key = s.key := by
  unfold State.faultCleared
  repeat' first | with_reducible rfl | split | simp only [
    State.key_alarmActive, State.key_post, State.key_with_fault, State.key_ite, ite_self]

theorem State.key_withStore (s : State) (st : Store) : (s.withStore st).key = s.key := by
  unfold State.withStore
  repeat' first | with_reducible rfl | split | simp only [
    State.key_lowTest, State.key_with_store, State.key_ite, ite_self]

theorem State.key_loseHaul (s : State) (n : Nat) : (s.loseHaul n).key = s.key := by
  unfold State.loseHaul
  repeat' first | with_reducible rfl | split | simp only [
    State.key_loseHolds, State.key_ite, ite_self]

theorem State.key_fold (s : State) (h : Option Haul) : (s.fold h).key = s.key := by
  unfold State.fold
  repeat' first | with_reducible rfl | split | simp only [
    State.key_loseHaul, State.key_with_log, State.key_ite, ite_self]

theorem State.key_addHaul (s : State) (port : Port) (n : Nat) (c : TakenContent) :
    (s.addHaul port n c).key = s.key := by
  unfold State.addHaul
  repeat' first | with_reducible rfl | split | simp only [
    State.key_fold, State.key_raiseOthers, State.key_with_log, State.key_ite, ite_self]

theorem State.key_withdrawReport (s : State) (r : OpenReport) : (s.withdrawReport r).key = s.key := by
  unfold State.withdrawReport
  repeat' first | with_reducible rfl | split | simp only [
    State.key_leaveQueue, State.key_lowTest, State.key_reportOutcome, State.key_with_store, State.key_ite,
    ite_self]

theorem State.key_amendHaul (s : State) (port : Port) (h : Haul) (c : TakenContent) :
    (s.amendHaul port h c).key = s.key := by
  unfold State.amendHaul
  repeat' first | with_reducible rfl | split | simp only [
    State.key_withdrawReport, State.key_writtenBy, State.key_raiseOthers, State.key_with_log, State.key_ite,
    ite_self]

theorem State.key_deleteHaul (s : State) (port : Port) (h : Haul) : (s.deleteHaul port h).key = s.key := by
  unfold State.deleteHaul
  repeat' first | with_reducible rfl | split | simp only [
    State.key_loseHaul, State.key_clearHold, State.key_raiseOthers, State.key_with_log, State.key_ite, ite_self]

theorem State.key_newTrip (s : State) (port : Port) (number : Nat) : (s.newTrip port number).key = s.key := by
  cases s; rfl

theorem State.key_expediteEntry (s : State) (slot : Nat) (o : Outbound) : (s.expediteEntry slot o).key = s.key := by
  unfold State.expediteEntry
  repeat' first | with_reducible rfl | split | simp only [
    State.key_expedite, State.key_modOutbound, State.key_trafficWaiting, State.key_ite, ite_self]

theorem State.key_withdraw (s : State) (slot : Nat) (o : Outbound) : (s.withdraw slot o).key = s.key := by
  unfold State.withdraw
  repeat' first | with_reducible rfl | split | simp only [
    State.key_leaveQueue, State.key_reportOutcome, State.key_lowTest, State.key_modOutbound,
    State.key_with_store, State.key_ite, ite_self]

theorem State.keyed_rewriteWindow (s : State) (port : Port) (index : Nat) (f : WindowFields) (hk : keyed s.key) :
    keyed (s.rewriteWindow port index f).key := by
  unfold State.rewriteWindow
  repeat' first | with_reducible exact hk | split | simp only [
    State.keyed_claim, State.keyed_bullYield, State.key_modWindow, State.key_writtenBy, State.keyed_bullReview,
    State.key_ite, hk]

theorem State.keyed_startTest (s : State) (hk : keyed s.key) : keyed s.startTest.key := by
  unfold State.startTest
  repeat' first | with_reducible exact hk | split | simp only [
    State.key_setOwn, State.key_setOwnState, State.keyed_callCycle, State.key_ite, hk]

theorem State.key_ackHeard (s : State) (vessel : Text) (number : Nat) : (s.ackHeard vessel number).key = s.key := by
  unfold State.ackHeard
  repeat' first | with_reducible rfl | split | simp only [
    State.key_alarmActive, State.key_with_heard, State.key_ite, ite_self]

end Sys2Proof.Machine
end

