-- ==== Sys2Proof/Laws/PerInstr.lean ====
section
/-! SUPPORT. What holds of every command as syntax, constructor by constructor: the parameter bytes of its frame
are as many as `Instr.paramSize` says (R180, R181). A step that is no command has no frame. -/
namespace Sys2Proof.Machine

@[simp] theorem length_u8 (n : Nat) : (u8 n).length = 1 := rfl
@[simp] theorem length_u16 (n : Nat) : (u16 n).length = 2 := rfl
@[simp] theorem length_u32 (n : Nat) : (u32 n).length = 4 := rfl
@[simp] theorem length_i32 (i : Int) : (i32 i).length = 4 := rfl
@[simp] theorem length_emitFlag (b : Bool) : (emitFlag b).length = 1 := rfl
@[simp] theorem length_emitBytes (l : List Byte) : (emitBytes l).length = 1 + l.length := by simp [emitBytes, Nat.add_comm]
@[simp] theorem length_emitText (t : Text) : (emitText t).length = textSize t := length_emitBytes t
@[simp] theorem length_emitReading (r : Reading) : (emitReading r).length = 7 := rfl

@[simp] theorem length_emitOptReading (r : Option Reading) : (emitOpt emitReading r).length = optReadingSize r := by
  cases r <;> rfl

@[simp] theorem length_emitGiven (g : GivenPosition) : (emitGiven g).length = g.size := by
  simp [emitGiven, GivenPosition.size]; omega

@[simp] theorem length_emitForm (p : PositionForm) : (emitForm p).length = p.size := by
  cases p <;> simp [emitForm, PositionForm.size, Nat.add_comm]

theorem length_species (l : List (Text × Nat)) : (l.map emitPair).flatten.length = speciesSize l := by
  induction l with
  | nil => rfl
  | cons p l ih => simp only [List.map_cons, List.flatten_cons, List.length_append, ih, emitPair, length_emitText,
      length_u32, speciesSize]

@[simp] theorem length_emitContent (c : HaulContent) : (emitContent c).length = c.size := by
  simp only [emitContent, emitList, List.length_append, List.length_cons, List.length_nil, length_emitOptReading,
    length_emitForm, length_species, HaulContent.size]
  omega

end Sys2Proof.Machine

namespace Sys2Proof.Laws.ParamSize

open Sys2Proof.Machine

/-- R180: the length byte of a command's frame is 4 and the number of its parameter bytes. -/
def Statement (i : Instr) : Prop := ∀ p t ps, Instr.frame i = some (p, t, ps) → ps.length = i.paramSize

/-- A step that is no command. -/
theorem of_none {i : Instr} (h : Instr.frame i = none) : Statement i := fun _ _ _ h' => nomatch h.symm.trans h'

/-- A command with its frame. -/
theorem of_frame {i : Instr} {q : Port} {u : Tag} {l : List Byte} (h : Instr.frame i = some (q, u, l))
    (hl : l.length = i.paramSize) : Statement i := by
  intro p t ps h'
  cases h.symm.trans h'
  exact hl

theorem vmainLoss : Statement .vmainLoss := of_none rfl

theorem backupLoss : Statement .backupLoss := of_none rfl

theorem resetAssert : Statement .resetAssert := of_none rfl

theorem warmReset : ∀ straps, Statement (.warmReset straps) := fun _ => of_none rfl

theorem coldStart : ∀ straps, Statement (.coldStart straps) := fun _ => of_none rfl

theorem clockSecond : Statement .clockSecond := of_none rfl

theorem referenceCheck : ∀ cycles present, Statement (.referenceCheck cycles present) := fun _ _ => of_none rfl

theorem clockMinute : Statement .clockMinute := of_none rfl

theorem scoreDecay : Statement .scoreDecay := of_none rfl

theorem expirySweep : Statement .expirySweep := of_none rfl

theorem retryAfterExpiry : ∀ slot, Statement (.retryAfterExpiry slot) := fun _ => of_none rfl

theorem checkTimerExpiry : Statement .checkTimerExpiry := of_none rfl

theorem silencePeriodExpiry : Statement .silencePeriodExpiry := of_none rfl

theorem revoke : Statement .revoke := of_none rfl

theorem settleEnd : Statement .settleEnd := of_none rfl

theorem transmissionCompleted : Statement .transmissionCompleted := of_none rfl

theorem keySenseRise : Statement .keySenseRise := of_none rfl

theorem keySenseFall : Statement .keySenseFall := of_none rfl

theorem keyNoResponse : Statement .keyNoResponse := of_none rfl

theorem keyStuck : Statement .keyStuck := of_none rfl

theorem carrierEnd : Statement .carrierEnd := of_none rfl

theorem scanDwellEnd : Statement .scanDwellEnd := of_none rfl

theorem levelConversionEnd : ∀ result, Statement (.levelConversionEnd result) := fun _ => of_none rfl

theorem watchSettleEnd : Statement .watchSettleEnd := of_none rfl

theorem watchDwellEnd : Statement .watchDwellEnd := of_none rfl

theorem watchHoldExpiry : Statement .watchHoldExpiry := of_none rfl

theorem phasingHeard : ∀ path, Statement (.phasingHeard path) := fun _ => of_none rfl

theorem turnReceived : ∀ path, Statement (.turnReceived path) := fun _ => of_none rfl

theorem clearReceived : ∀ path, Statement (.clearReceived path) := fun _ => of_none rfl

theorem lossOfLock : ∀ path, Statement (.lossOfLock path) := fun _ => of_none rfl

theorem trackerPhaseCorrection : ∀ path error units, Statement (.trackerPhaseCorrection path error units) := fun _ _ _ => of_none rfl

theorem frameRecord : ∀ path groups, Statement (.frameRecord path groups) := fun _ _ => of_none rfl

theorem answerWaitExpiry : Statement .answerWaitExpiry := of_none rfl

theorem phasingWaitExpiry : Statement .phasingWaitExpiry := of_none rfl

theorem turnWaitExpiry : Statement .turnWaitExpiry := of_none rfl

theorem symbolWaitExpiry : Statement .symbolWaitExpiry := of_none rfl

theorem distressKeyPress : Statement .distressKeyPress := of_none rfl

theorem distressKeyRelease : Statement .distressKeyRelease := of_none rfl

theorem keyHoldExpiry : Statement .keyHoldExpiry := of_none rfl

theorem repeatIntervalExpiry : Statement .repeatIntervalExpiry := of_none rfl

theorem cancelWindowExpiry : Statement .cancelWindowExpiry := of_none rfl

theorem cancelRetryExpiry : Statement .cancelRetryExpiry := of_none rfl

theorem testReplyWaitExpiry : Statement .testReplyWaitExpiry := of_none rfl

theorem cadencePeriodEnd : Statement .cadencePeriodEnd := of_none rfl

theorem badFrame : ∀ port bytes, Statement (.badFrame port bytes) := fun _ _ => of_none rfl

theorem overrun : ∀ port data, Statement (.overrun port data) := fun _ _ => of_none rfl

theorem responseRead : ∀ port, Statement (.responseRead port) := fun _ => of_none rfl

theorem tset : ∀ port reading, Statement (.tset port reading) := fun _ _ => of_frame rfl rfl

theorem tget : ∀ port, Statement (.tget port) := fun _ => of_frame rfl rfl

theorem posn : ∀ port form, Statement (.posn port form) := by
  intro _ form
  cases form with
  | none => exact of_frame rfl rfl
  | some g => exact of_frame rfl (by show _ = 1 + g.size; simp [Nat.add_comm])

theorem pget : ∀ port, Statement (.pget port) := fun _ => of_frame rfl rfl

theorem ship : ∀ port vessel home interval, Statement (.ship port vessel home interval) :=
  fun _ vessel home _ => of_frame rfl (by show _ = textSize vessel + textSize home + 1; simp [Nat.add_assoc])

theorem chrd : ∀ port index hold, Statement (.chrd port index hold) := fun _ _ _ => of_frame rfl rfl

theorem chwr : ∀ port index fields, Statement (.chwr port index fields) :=
  fun _ _ fields => of_frame rfl (by show _ = 7 + textSize fields.station + 1; simp; omega)

theorem tune : ∀ port index duration, Statement (.tune port index duration) := fun _ _ _ => of_frame rfl rfl

theorem fack : ∀ port, Statement (.fack port) := fun _ => of_frame rfl rfl

theorem fclr : ∀ port, Statement (.fclr port) := fun _ => of_frame rfl rfl

theorem dopn : ∀ port cls dest, Statement (.dopn port cls dest) :=
  fun _ _ dest => of_frame rfl (by show _ = 1 + textSize dest; simp)

theorem dapp : ∀ port slot chars, Statement (.dapp port slot chars) :=
  fun _ _ chars => of_frame rfl (by show _ = 1 + textSize chars; simp)

theorem ddis : ∀ port slot, Statement (.ddis port slot) := fun _ _ => of_frame rfl rfl

theorem mred : ∀ port slot offset count part, Statement (.mred port slot offset count part) := by
  intro _ _ _ _ part
  cases part <;> exact of_frame rfl rfl

theorem list : ∀ port slot, Statement (.list port slot) := fun _ _ => of_frame rfl rfl

theorem mrkr : ∀ port slot, Statement (.mrkr port slot) := fun _ _ => of_frame rfl rfl

theorem mdel : ∀ port slot, Statement (.mdel port slot) := fun _ _ => of_frame rfl rfl

theorem hadd : ∀ port content, Statement (.hadd port content) :=
  fun _ content => of_frame rfl (length_emitContent content)

theorem hred : ∀ port haul mode hold, Statement (.hred port haul mode hold) := fun _ _ _ _ => of_frame rfl rfl

theorem hamd : ∀ port haul content, Statement (.hamd port haul content) :=
  fun _ _ content => of_frame rfl (by show _ = 2 + content.size; simp)

theorem hdel : ∀ port haul, Statement (.hdel port haul) := fun _ _ => of_frame rfl rfl

theorem trip : ∀ port number, Statement (.trip port number) := fun _ _ => of_frame rfl rfl

theorem totl : ∀ port start, Statement (.totl port start) := fun _ _ => of_frame rfl rfl

theorem crep : ∀ port dest, Statement (.crep port dest) :=
  fun _ dest => of_frame rfl (length_emitText dest)

theorem dque : ∀ port slot, Statement (.dque port slot) := fun _ _ => of_frame rfl rfl

theorem qexp : ∀ port slot, Statement (.qexp port slot) := fun _ _ => of_frame rfl rfl

theorem qwdr : ∀ port slot, Statement (.qwdr port slot) := fun _ _ => of_frame rfl rfl

theorem qlst : ∀ port position, Statement (.qlst port position) := fun _ _ => of_frame rfl rfl

theorem skrd : ∀ port index hold, Statement (.skrd port index hold) := fun _ _ _ => of_frame rfl rfl

theorem skwr : ∀ port index fields, Statement (.skwr port index fields) :=
  fun _ _ fields => of_frame rfl (by show _ = 8 + (1 + fields.subjects.length) + (1 + fields.areas.length); simp; omega)

theorem dalr : ∀ port nature, Statement (.dalr port nature) := fun _ _ => of_frame rfl rfl

theorem dtst : ∀ port, Statement (.dtst port) := fun _ => of_frame rfl rfl

theorem dcan : ∀ port, Statement (.dcan port) := fun _ => of_frame rfl rfl

theorem dcnf : ∀ port, Statement (.dcnf port) := fun _ => of_frame rfl rfl

theorem dcls : ∀ port, Statement (.dcls port) := fun _ => of_frame rfl rfl

theorem hack : ∀ port vessel number, Statement (.hack port vessel number) :=
  fun _ vessel _ => of_frame rfl (by show _ = textSize vessel + 1; simp)

theorem hlst : ∀ port position, Statement (.hlst port position) := fun _ _ => of_frame rfl rfl

theorem note : ∀ port, Statement (.note port) := fun _ => of_frame rfl rfl

theorem mask : ∀ port classes, Statement (.mask port classes) := fun _ _ => of_frame rfl rfl

theorem stat : ∀ port line, Statement (.stat port line) := fun _ _ => of_frame rfl rfl

theorem prst : ∀ port, Statement (.prst port) := fun _ => of_frame rfl rfl

theorem asil : ∀ port, Statement (.asil port) := fun _ => of_frame rfl rfl

theorem symbolGroup : ∀ path units, Statement (.symbolGroup path units) := fun _ _ => of_none rfl

theorem lineTransition : ∀ path error units, Statement (.lineTransition path error units) := fun _ _ _ => of_none rfl

theorem symbolSent : Statement .symbolSent := of_none rfl

theorem cadenceOnPartEnd : Statement .cadenceOnPartEnd := of_none rfl

theorem responseTransferReleased : ∀ port, Statement (.responseTransferReleased port) := fun _ => of_none rfl

end Sys2Proof.Laws.ParamSize
end

