-- ==== Sys2Proof/Laws/SteadyEvents.lean ====
section
/-! SUPPORT. What the steps of the radio blocks do leaves the steady part of the state alone. -/
set_option linter.unusedSimpArgs false

namespace Sys2Proof.Machine

/-! ## Transceiver, scanner, sampler, watch receiver -/

@[simp] theorem State.steady_releaseLimitEnd (s : State) : s.releaseLimitEnd.steady = s.steady := by
  unfold State.releaseLimitEnd
  repeat' first | with_reducible rfl | split | simp only [
    State.steady_revoke, State.steady_ite, ite_self]

@[simp] theorem State.steady_settleEnd (s : State) : s.settleEnd.steady = s.steady := by
  unfold State.settleEnd
  repeat' first | with_reducible rfl | split | simp only [
    State.steady_setPhase, State.steady_post, State.steady_ite, ite_self]

@[simp] theorem State.steady_transmissionEnd (s : State) : s.transmissionEnd.steady = s.steady := by
  unfold State.transmissionEnd
  repeat' first | with_reducible rfl | split | simp only [
    State.steady_completePath, State.steady_shifts, State.steady_ite, ite_self]

@[simp] theorem State.steady_symbolEnd (s : State) : s.symbolEnd.steady = s.steady := by
  unfold State.symbolEnd
  split
  · exact State.steady_shifts _ _
  · rfl

@[simp] theorem State.steady_unitEnd (s : State) : s.unitEnd.steady = s.steady := by
  unfold State.unitEnd
  split <;> rfl

@[simp] theorem State.steady_responseWaitEnd (s : State) : s.responseWaitEnd.steady = s.steady := by
  unfold State.responseWaitEnd
  repeat' first | with_reducible rfl | split | simp only [
    State.steady_keyFault, State.steady_ite, ite_self]

@[simp] theorem State.steady_dropWaitEnd (s : State) : s.dropWaitEnd.steady = s.steady := by
  unfold State.dropWaitEnd
  repeat' first | with_reducible rfl | split | simp only [
    State.steady_keyFault, State.steady_with_monitor, State.steady_ite, ite_self]

@[simp] theorem State.steady_carrierEnd (s : State) : s.carrierEnd.steady = s.steady := by
  unfold State.carrierEnd
  repeat' first | with_reducible rfl | split | simp only [
    State.steady_release, State.steady_ite, ite_self]

@[simp] theorem State.steady_dwellEnd (s : State) : s.dwellEnd.steady = s.steady := by
  unfold State.dwellEnd
  repeat' first | with_reducible rfl | split | simp only [
    State.steady_scanScheduledEnd, State.steady_ite, ite_self]

theorem Channel.given_level (c : Channel) (a b : Option Nat) : ({ c with last := a, smooth := b } : Channel).given = c.given :=
  rfl

@[simp] theorem State.steady_takeLevel (s : State) (c : Conversion) (result : Byte) :
    (s.takeLevel c result).steady = s.steady := by
  have h : (s.modChannel c.entry fun e =>
      { e with last := some result.toNat, smooth := some (smoothed e.smooth result.toNat) }).steady = s.steady :=
    State.steady_modChannel _ _ _ fun e => Channel.given_level e _ _
  unfold State.takeLevel
  simp only [State.steady_ite, State.steady_score, h, ite_self]

@[simp] theorem State.steady_conversionEnd (s : State) (result : Byte) :
    (s.conversionEnd result).steady = s.steady := by
  unfold State.conversionEnd
  repeat' first | with_reducible rfl | split | simp only [
    State.steady_takeLevel, State.steady_with_sampler, State.steady_ite, ite_self]

@[simp] theorem State.steady_watchSettleEnd (s : State) : s.watchSettleEnd.steady = s.steady := by
  unfold State.watchSettleEnd
  repeat' first | with_reducible rfl | split | simp only [
    State.steady_with_watch, State.steady_ite, ite_self]

@[simp] theorem State.steady_watchDwellEnd (s : State) : s.watchDwellEnd.steady = s.steady := by
  unfold State.watchDwellEnd
  repeat' first | with_reducible rfl | split | simp only [
    State.steady_watchMoveOn, State.steady_ite, ite_self]

@[simp] theorem State.steady_watchHoldEnd (s : State) : s.watchHoldEnd.steady = s.steady := by
  unfold State.watchHoldEnd
  repeat' first | with_reducible rfl | split | simp only [
    State.steady_watchMoveOn, State.steady_ite, ite_self]

/-! ## Reception -/

@[simp] theorem State.steady_feed (s : State) (p : Path) (l : List Byte) : (s.feed p l).steady = s.steady :=
  State.steady_foldl _ (fun s u => (State.steady_settle _).trans (State.steady_receive s p u)) l s

/-! ## Intervals that have been replaced (log 51) -/

theorem State.ranOut_iff (s : State) (start : BitVec 32) (n : Nat) :
    s.ranOut start n = true ↔ n ≤ s.since start + 1 := decide_eq_true_iff

/-- R177: the silence period ends at its own expiry. -/
theorem State.silenceExpiry_ends (s : State) (h : s.silence.running = true) (hp : 899 ≤ s.since s.silence.since) :
    s.silenceExpiry = s.silenceEnd := by
  have hr : s.ranOut s.silence.since Config.silenceSec = true := (s.ranOut_iff _ _).2 (Nat.succ_le_succ hp)
  unfold State.silenceExpiry State.silenceRanOut
  rw [h, hr]
  rfl

/-- R177: the expiry of a period that an S frame has replaced changes nothing. -/
theorem State.silenceExpiry_replaced (s : State) (hp : s.since s.silence.since < 899) : s.silenceExpiry = s := by
  have hr : s.ranOut s.silence.since Config.silenceSec = false :=
    decide_eq_false fun h => Nat.lt_irrefl _ (Nat.lt_of_lt_of_le hp (Nat.le_of_succ_le_succ h))
  unfold State.silenceExpiry State.silenceRanOut
  rw [hr, Bool.and_false]
  rfl

/-- R47: the expiry of a dwell that a step has replaced changes nothing. -/
theorem State.watchDwellEnd_replaced (s : State) (h : s.time.elapsed = s.watch.since) : s.watchDwellEnd = s := by
  have hr : s.ranOut s.watch.since Config.watchDwellSec = false := by
    unfold State.ranOut State.since
    rw [h, BitVec.sub_self]
    rfl
  unfold State.watchDwellEnd
  rw [hr]
  exact if_neg fun h => Bool.noConfusion h.2

end Sys2Proof.Machine
end

