-- ==== Sys2Proof/Tests/Slice0.lean ====
section
/-! SUPPORT. Small tests: ill-formed terms the well-formedness check refuses, the commands' results on small states, and
for every statement with hypotheses states and operands that meet them, clause by clause. -/
namespace Sys2Proof.Tests

-- One theorem after another: each is a kernel evaluation, and hundreds at once want too many threads.
set_option Elab.async false

open Sys2Proof.Machine

/-! ## Well-formedness -/

def lateReading : Reading := ⟨65536, 1, 1, 0, 0, 0⟩
def longText : Text := List.replicate 256 0x41#8
def okFields : ChannelFields := ⟨true, 0, 20000, chars ['T', 'O', 'R', 'V'], 10⟩
def okWindow : WindowFields := ⟨true, 1, 630, 30, 6, false, chars ['F', 'W'], [1, 2]⟩
def okContent : HaulContent := ⟨none, none, .absent, 0x54#8, [(chars ['C', 'O', 'D'], 1200)]⟩

theorem test_wf_reading : (Instr.tset .a lateReading).wf = false ∧ (Instr.tset .a ⟨65535, 255, 255, 255, 255, 255⟩).wf = true ∧
    (Instr.tset .a ⟨2000, 256, 1, 0, 0, 0⟩).wf = false ∧ (Instr.tset .a ⟨2000, 1, 256, 0, 0, 0⟩).wf = false ∧
    (Instr.tset .a ⟨2000, 1, 1, 256, 0, 0⟩).wf = false ∧ (Instr.tset .a ⟨2000, 1, 1, 0, 256, 0⟩).wf = false ∧
    (Instr.tset .a ⟨2000, 1, 1, 0, 0, 256⟩).wf = false := by decide
theorem test_wf_position : (Instr.posn .a (some ⟨2147483648, 0, none⟩)).wf = false ∧
    (Instr.posn .a (some ⟨0, -2147483649, none⟩)).wf = false ∧ (Instr.posn .a (some ⟨0, 0, some lateReading⟩)).wf = false ∧
    (Instr.posn .a (some ⟨2147483647, -2147483648, none⟩)).wf = true := by decide
theorem test_wf_identity : (Instr.ship .a longText [] 0).wf = false ∧ (Instr.ship .a [] longText 0).wf = false ∧
    (Instr.ship .a [] [] 256).wf = false ∧ (Instr.ship .a [] [] 255).wf = true := by decide +kernel
theorem test_wf_channel : (Instr.chrd .a 256 true).wf = false ∧ (Instr.chwr .a 256 okFields).wf = false ∧
    (Instr.chwr .a 0 { okFields with role := 256 }).wf = false ∧ (Instr.chwr .a 0 { okFields with freq := 4294967296 }).wf = false ∧
    (Instr.chwr .a 0 { okFields with station := longText }).wf = false ∧
    (Instr.chwr .a 0 { okFields with floor := 256 }).wf = false ∧ (Instr.chwr .a 0 okFields).wf = true ∧
    (Instr.tune .b 256 1).wf = false ∧ (Instr.tune .b 0 256).wf = false ∧ (Instr.tune .b 255 255).wf = true := by decide +kernel
theorem test_wf_records : (Instr.dopn .a 256 []).wf = false ∧ (Instr.dopn .a 0 longText).wf = false ∧
    (Instr.dapp .a 256 []).wf = false ∧ (Instr.dapp .a 0 longText).wf = false ∧ (Instr.ddis .a 256).wf = false ∧
    (Instr.mred .a 256 0 0 none).wf = false ∧ (Instr.mred .a 0 65536 0 none).wf = false ∧
    (Instr.mred .a 0 0 256 none).wf = false ∧ (Instr.mred .a 0 0 0 (some 256)).wf = false ∧
    (Instr.mred .a 255 65535 255 (some 255)).wf = true ∧ (Instr.list .a 256).wf = false ∧ (Instr.mrkr .a 256).wf = false ∧
    (Instr.mdel .a 256).wf = false ∧ (Instr.dque .a 256).wf = false ∧ (Instr.qexp .a 256).wf = false ∧
    (Instr.qwdr .a 256).wf = false ∧ (Instr.qlst .a 256).wf = false := by decide +kernel
theorem test_wf_hauls : (Instr.hadd .c { okContent with first := some lateReading }).wf = false ∧
    (Instr.hadd .c { okContent with last := some lateReading }).wf = false ∧
    (Instr.hadd .c { okContent with pos := .given ⟨2147483648, 0, none⟩ }).wf = false ∧
    (Instr.hadd .c { okContent with species := [(longText, 0)] }).wf = false ∧
    (Instr.hadd .c { okContent with species := [([], 4294967296)] }).wf = false ∧
    (Instr.hadd .c { okContent with species := List.replicate 256 ([], 0) }).wf = false ∧ (Instr.hadd .c okContent).wf = true ∧
    (Instr.hamd .c 65536 okContent).wf = false ∧ (Instr.hamd .c 1 { okContent with last := some lateReading }).wf = false ∧
    (Instr.hred .c 65536 0 true).wf = false ∧ (Instr.hred .c 1 256 true).wf = false ∧ (Instr.hdel .c 65536).wf = false ∧
    (Instr.trip .c 65536).wf = false ∧ (Instr.totl .c 256).wf = false ∧ (Instr.crep .c longText).wf = false := by decide +kernel
theorem test_wf_schedule : (Instr.skrd .a 256 true).wf = false ∧ (Instr.skwr .a 256 okWindow).wf = false ∧
    (Instr.skwr .a 0 { okWindow with channel := 256 }).wf = false ∧ (Instr.skwr .a 0 { okWindow with start := 65536 }).wf = false ∧
    (Instr.skwr .a 0 { okWindow with duration := 256 }).wf = false ∧ (Instr.skwr .a 0 { okWindow with every := 256 }).wf = false ∧
    (Instr.skwr .a 0 { okWindow with subjects := longText }).wf = false ∧
    (Instr.skwr .a 0 { okWindow with areas := List.replicate 256 1 }).wf = false ∧
    (Instr.skwr .a 0 { okWindow with areas := [256] }).wf = false ∧ (Instr.skwr .a 0 okWindow).wf = true := by decide +kernel
theorem test_wf_other : (Instr.hack .a longText 1).wf = false ∧ (Instr.hack .a [] 256).wf = false ∧
    (Instr.hlst .a 256).wf = false ∧ (Instr.stat .a 256).wf = false ∧ (Instr.retryAfterExpiry 64).wf = false ∧
    (Instr.retryAfterExpiry 63).wf = true ∧ (Instr.lineTransition .watch 4 1).wf = false ∧
    (Instr.lineTransition .watch (-5) 1).wf = false ∧ (Instr.trackerPhaseCorrection .watch 4 1).wf = false ∧
    (Instr.trackerPhaseCorrection .watch (-4) 1).wf = true := by decide +kernel
/-- Parameters that fit their fields in a frame that is too long (R180). -/
theorem test_wf_frame : (Instr.ship .a (List.replicate 200 0x41#8) (List.replicate 44 0x41#8) 0).wf = false ∧
    (Instr.ship .a (List.replicate 200 0x41#8) (List.replicate 43 0x41#8) 0).wf = true := by decide +kernel

/-! ## States to test on -/

/-- The state a step leaves; the state before it where it stops. -/
def after (c : Instr) (s : State) : State :=
  match exec c s with
  | .next t => t
  | .fault _ => s
  | .refused _ => s

def data (s : State) (p : Port) : Option (List Byte) := (s.port p).response.map Response.bytes

def stamp0 : Stamp := ⟨⟨2000, 1, 1, 0, 0, 0⟩, .unset⟩
def r : State := State.reset
def stopped : State := { r with supply := { r.supply with vmain := false } }
def unpowered : State := { r with supply := { r.supply with vmain := false, marker := .invalid } }
def timed (st : TimeState) (reading : Reading) (s : State) : State := { s with time := { s.time with state := st, reading := reading } }
def noon : Reading := ⟨2025, 1, 14, 12, 0, 0⟩
def lk : State := timed .locked noon r
def torv : Channel := { Channel.cold with valid := true, freq := 20000, station := chars ['T', 'O', 'R', 'V'] }
def cast : Channel := { torv with role := .broadcast, freq := 30000 }
def call : Channel := { torv with role := .distress, freq := 21875 }
def put (i : Nat) (c : Channel) (s : State) : State := s.modChannel i fun _ => c
def named (s : State) : State := { s with ident := { s.ident with vessel := chars ['J', 'K'], home := chars ['T', 'O', 'R', 'V'] } }
def held (h : Claimant) (ch : Option Nat) (ph : Phase) (s : State) : State := { s with arb := { s.arb with grant := some ⟨h, ch, ph, none⟩ } }
def asked (s : State) : State := { s with arb := { s.arb with grant := s.arb.grant.map fun g => { g with request := some 5 } } }
def waits (l : List Claimant) (s : State) : State := { s with arb := { s.arb with waiting := l } }
def sends (l : List Symbol) (s : State) : State := { s with tx := { s.tx with list := l }, monitor := .keyed, pins := { s.pins with ksns := true } }
def mon (k : KeyState) (s : State) : State := { s with monitor := k }
def sense (on : Bool) (s : State) : State := { s with pins := { s.pins with ksns := on } }
def button (on : Bool) (s : State) : State := { s with pins := { s.pins with dbtn := on } }
def owned (st : AlertState) (s : State) : State := { s with own := { s.own with state := st } }
def port (p : Port) (f : PortCtx → PortCtx) (s : State) : State := s.setPort p (f (s.port p))
def filed (n : Nat) (o : Option Port) (b : Body) (s : State) : State :=
  { s with store := { s.store.setSlot n (some ⟨o, stamp0, b⟩) with age := s.store.age ++ [n], free := s.store.free.drop 2 } }
def draft : Outbound :=
  { state := .draft, cls := .routine, dest := chars ['T', 'O', 'R', 'V'], msg := none, resume := 0, attempts := 0, retry := none,
    failure := none, hauls := [], text := chars ['H', 'I'], pages := [0] }
def letter : Inbound :=
  { state := .complete, coastMsg := some 412, addressee := .catch_, declared := some 2, read := false, noHeader := false,
    text := chars ['H', 'I'], pages := [0] }
def part : PartEntry := ⟨1, 0, stamp0, chars ['G', 'A', 'L', 'E'], [0]⟩
def gale : Bulletin := ⟨⟨chars ['T', 'O'], 0x46#8, 1, 14, 6⟩, 2, [part], 0⟩
def haul (n : Nat) (st : HaulState) : Haul :=
  { number := n, state := st, cor := false, first := stamp0, last := stamp0, pos := .absent, gear := 0x54#8,
    species := [(chars ['C', 'O', 'D'], 100)], report := if st = .unreported then none else some 1, origin := .c }
def hauls (l : List Haul) (s : State) : State :=
  { s with log := { s.log with hauls := l, next := some 100, totals := [⟨chars ['C', 'O', 'D'], 100 * l.length, 0⟩] } }
def hold (p : Port) (x : HoldRef) (lost : Bool) (s : State) : State := port p (fun c => { c with hold := some ⟨x, lost⟩ }) s

/-! ## What meets the hypotheses: queue, supplies, time -/

theorem test_met_StepRunsTheFront : ({ r with pending := [.clockSecond, .vmainLoss] }).pending = [.clockSecond, .vmainLoss] ∧
    r.pending = [] := by decide +kernel
theorem test_met_SuppliesAndTheStoppedPart : stopped.supply.vmain = false ∧ r.supply.vmain = true ∧ stopped.running = false ∧
    Instr.actsStopped (.tget .a) = false := by decide +kernel
theorem test_met_WarmReset : r.retained = true ∧ stopped.retained = true ∧ unpowered.retained = false := by decide +kernel
theorem test_met_ClockSecond : lk.retained = true ∧ readingOk lk.time.reading = true ∧ lk.time.reading ≠ ⟨2099, 12, 31, 23, 59, 59⟩ ∧
    lk.time.elapsed ≠ 0xFFFFFFFF#32 ∧ readingOk (timed .locked ⟨2099, 12, 31, 23, 59, 59⟩ r).time.reading = true ∧
    (timed .locked ⟨2099, 12, 31, 23, 59, 59⟩ r).retained = true := by decide +kernel

def counted (st : TimeState) (good bad : Nat) (q : Bool) : State :=
  { r with time := { r.time with state := st, good := good, bad := bad, qualified := q } }
/-- The two outer hypotheses, for one state. -/
def countsOk (s : State) : Bool :=
  s.running && (!s.time.qualified || decide (s.time.good ≤ 64) && decide (s.time.bad < 3)) &&
  (s.time.qualified || decide (s.time.good < 64))
theorem test_met_ReferenceCheck :
    [counted .locked 64 0 true, counted .unset 62 2 false, counted .unset 63 0 false, counted .holdover 63 3 false,
     counted .unset 64 2 true, counted .locked 0 2 true].all countsOk = true ∧
    (true = true ∧ 999998 ≤ 999998 ∧ 999998 ≤ 1000002) ∧ (true = true ∧ 999998 ≤ 1000002 ∧ 1000002 ≤ 1000002) ∧
    ¬ (true = true ∧ 999998 ≤ 999997 ∧ 999997 ≤ 1000002) ∧ ¬ (true = true ∧ 999998 ≤ 1000003 ∧ 1000003 ≤ 1000002) ∧
    ¬ (false = true ∧ 999998 ≤ 1000000 ∧ 1000000 ≤ 1000002) := by decide +kernel

def slot0 (w : Window) (s : State) : State := { s with windows := s.windows.set 0 w }
def win : Window := { Window.cold with enabled := true, start := 1200, duration := 30, every := 6 }
def minuteOf (st : TimeState) (reading : Reading) (w : Window) : State :=
  slot0 w { r with time := { r.time with state := st, reading := reading, minute := some reading } }
def nominal (w : Window) (t : Int) : Bool := decide ((t - w.startSecond) % w.period = 0)
theorem test_met_ClockMinute :
    r.atRest ∧ r.running = true ∧ r.time.minute = none ∧ (minuteOf .unset noon win).time.minute = some noon ∧
    (minuteOf .unset noon win).time.state = .unset ∧ (minuteOf .locked noon win).time.state ≠ .unset ∧
    0 < (minuteOf .locked noon win).windows.length ∧
    -- disabled; IDLE at its start; IDLE two minutes ahead of it in HOLDOVER; DUE and ACTIVE at a start
    ((minuteOf .locked noon Window.cold).window 0).enabled = false ∧ nominal win (instant noon) = true ∧
    nominal win (instant ⟨2025, 1, 14, 11, 58, 0⟩) = false ∧ nominal win (instant ⟨2025, 1, 14, 11, 58, 0⟩ + 120) = true ∧
    ((minuteOf .holdover noon { win with state := .due, span := some (0, 5) }).window 0).state ≠ .idle ∧
    -- no start: no span, an end not reached, an end reached while DUE and while ACTIVE
    nominal win (instant ⟨2025, 1, 14, 12, 30, 0⟩) = false ∧ nominal win (instant ⟨2025, 1, 14, 12, 30, 0⟩ + 120) = false ∧
    (win.span = none) ∧ instant noon + 1800 = instant ⟨2025, 1, 14, 12, 30, 0⟩ := by
  unfold State.atRest; decide +kernel
theorem test_met_ScoreDecay : r.atRest ∧ r.running = true ∧ 23 < r.channels.length ∧
    ([-64, -17, -16, -15, -1, 0, 1, 63].map fun x => ((put 0 { torv with score := x } r).channel 0).score) =
      [-64, -17, -16, -15, -1, 0, 1, 63] := by unfold State.atRest; decide +kernel
theorem test_met_ExpirySweep : (filed 3 none (.bulletin gale) r).atRest ∧ (filed 3 none (.bulletin gale) r).running = true ∧
    (filed 3 none (.bulletin gale) r).store.age.Nodup ∧ (filed 3 none (.bulletin gale) r).store.expired + 1 ≤ 65535 := by
  unfold State.atRest; decide +kernel

def retrying : State := filed 3 (some .a) (.outbound { draft with state := .queued, retry := some 0 }) r
def timing (s : State) : State := { s with queue := { s.queue with timer := some ⟨0, 60⟩ } }
def silent (s : State) : State := { s with silence := { s.silence with running := true } }
def every1 (s : State) : State := { s with ident := { s.ident with interval := 1 } }
def late (n : BitVec 32) (s : State) : State := { s with time := { s.time with elapsed := n } }
def off (s : State) : State := { s with supply := { s.supply with vmain := false } }
/-- A silence that has run so many seconds. -/
def silentFor (n : BitVec 32) : State := late n (silent r)
theorem test_met_IntervalExpiries_silence :
    ([silentFor 899, silentFor 900, off (silentFor 899)].all fun s => s.silence.running && decide (899 ≤ s.since s.silence.since)) = true ∧
    (silentFor 898).since (silentFor 898).silence.since < 899 ∧ (silentFor 898).silence.running = true := by decide +kernel
theorem test_met_IntervalExpiries :
    [retrying, timing r, silent r].all (fun s => s.signals.isEmpty && s.running) = true ∧
    (retrying.outbound 3).map (fun o => o.retry.isSome) = some true ∧ (∀ o, r.outbound 3 = some o → o.retry = none) ∧
    r.queue.timer = none ∧ (timing r).queue.timer.isSome = true ∧ (timing r).ident.interval = 0 ∧
    0 < (timing (every1 r)).ident.interval ∧ (timing (every1 r)).ident.home = [] ∧ (every1 (named r)).ident.home ≠ [] ∧
    3600 ≤ (late 3600 (every1 (named r))).since 0 ∧ (late 3599 (every1 (named r))).since 0 < 3600 ∧
    (silent r).silence.running = true ∧ r.silence.running = false ∧
    [off retrying, off (timing r), off (silent r)].all (fun s => !s.running && s.retained) = true ∧
    unpowered.running = false ∧ unpowered.retained = false := by decide +kernel

/-! ## What meets the hypotheses: transceiver, scanner, watch receiver, reception -/

theorem test_met_RevokeAndCarrierEnd :
    [r, asked (held .tune (some 0) .tx r), held .tune (some 0) .tx r].all (fun s => s.signals.isEmpty && s.running) = true ∧
    r.arb.state ≠ .releasing ∧ (asked (held .tune (some 0) .tx r)).arb.grant = some ⟨.tune, some 0, .tx, some 5⟩ ∧
    ¬ (r.holder = some .tune ∧ r.phase = some .tx ∧ r.tx.heldBack = false) ∧
    (held .tune (some 0) .tx r).holder = some .tune ∧ (held .tune (some 0) .tx r).phase = some .tx ∧
    (held .tune (some 0) .tx r).tx.heldBack = false := by decide +kernel
def winActive (s : State) : State :=
  { slot0 { win with state := .active, channel := 1 } s with bull := { s.bull with claim := some 0 } }
theorem test_met_SettleEnd :
    [r, held .scan (some 0) .settling r, winActive (held .bulletinOrdinary (some 1) .settling r),
     mon .falling (held .tune (some 0) .settling lk), held .tune (some 0) .settling lk].all
      (fun s => s.signals.isEmpty && s.running) = true ∧
    r.phase ≠ some .settling ∧ (winActive (held .bulletinOrdinary (some 1) .settling r)).activeWindow = some 0 ∧
    lk.gateClosed = false ∧ (mon .falling (held .tune (some 0) .settling lk)).gateClosed = false ∧
    (held .tune (some 0) .settling lk).monitor = .quiet := by decide +kernel
theorem test_met_SymbolsSent :
    (sends [0, 1] (held .link (some 0) .tx lk)).atRest ∧ (sends [0, 1] (held .link (some 0) .tx lk)).running = true ∧
    r.sending = false ∧ (sends [0, 1] (held .link (some 0) .tx lk)).sending = true ∧
    (sends [openSym, 1] (held .link (some 0) .tx lk)).sending = true ∧
    (sends [closeSym, 1] (held .link (some 0) .tx lk)).sending = true ∧
    (sends [7] (held .link (some 0) .tx lk)).sending = true ∧
    (mon .rising (sends [7] (held .link (some 0) .tx lk))).sending = true := by unfold State.atRest; decide +kernel
theorem test_met_KeySense :
    r.atRest ∧ r.running = true ∧ (sense true r).pins.ksns = true ∧ r.pins.ksns = false ∧
    ([KeyState.quiet, .rising, .keyed, .falling, .stuck].map fun k => (mon k r).monitor) =
      [.quiet, .rising, .keyed, .falling, .stuck] ∧
    (sense true (mon .falling { r with tx := { r.tx with heldBack := true } })).tx.heldBack = true := by
  unfold State.atRest; decide +kernel
theorem test_met_KeyFaults :
    r.atRest ∧ r.running = true ∧ r.monitor ≠ .rising ∧ r.monitor ≠ .falling ∧
    (mon .rising (held .link (some 4) .tx r)).monitor = .rising ∧ (mon .rising (held .link (some 4) .tx r)).phase = some .tx ∧
    (mon .falling (held .link (some 4) .rx r)).phase ≠ some .tx ∧ r.fault.state = .none ∧
    ({ r with fault := { r.fault with state := .pending } }).fault.state = .pending ∧
    ({ r with fault := { r.fault with state := .lockout } }).fault.state = .lockout := by unfold State.atRest; decide +kernel

def dwell (ph : Nat) (s : State) : State :=
  held .scan (some 0) .rx { put 0 torv (put 2 cast s) with
    scanner := { s.scanner with state := .dwelling, current := some 0 }, trx := { s.trx with phasing := ph } }
def pend (s : State) : State := { s with scanner := { s.scanner with releasePending := true } }
def sampling (c : LevelCause) (void : Bool) (s : State) : State := { s with sampler := some ⟨.rlvl, 0, c, void⟩ }
theorem test_met_ScanDwellAndLevel :
    [dwell 0 r, dwell 1 r, dwell 3 r, dwell 4 r, pend (dwell 2 r)].all (fun s => s.signals.isEmpty && s.running &&
      decide (s.scanner.state = .dwelling) && !s.scanner.extended && decide (s.holder = some .scan) &&
      decide (s.phase ≠ some .tx) && decide (s.scanner.current = some 0)) = true ∧
    (dwell 1 r).trx.phasing = 1 ∧ (dwell 3 r).trx.phasing = 3 ∧ r.scanner.state ≠ .dwelling ∧ r.sampler = none ∧
    nextEntry (some 0) (after .scanDwellEnd (dwell 0 r)).scanList = some 2 ∧ (pend (dwell 2 r)).scanner.releasePending = true ∧
    (sampling (.scanDwell false) true (put 0 torv r)).sampler = some ⟨.rlvl, 0, .scanDwell false, true⟩ ∧
    ((sampling .frameClose false r).channel 0).valid = false ∧
    ((sampling (.scanDwell false) false (put 0 torv r)).channel 0).valid = true := by decide +kernel
def watching (st : WatchState) (s : State) : State :=
  { put 20 call (put 21 call s) with watch := { s.watch with state := st, entry := some 20 } }
theorem test_met_WatchReceiverSteps :
    ([WatchState.settling, .dwelling, .held].map fun st => ((watching st r).signals.isEmpty && (watching st r).running,
      (watching st r).watch.entry, nextEntry (some 20) (watching st r).watchList)) = List.replicate 3 (true, some 20, some 21) ∧
    r.watch.state = .idle ∧ r.watch.state ≠ .settling ∧ r.watch.state ≠ .held ∧
    nextEntry (some 20) ({ r with watch := { r.watch with state := .dwelling, entry := some 20 } }).watchList = none := by
  decide +kernel
def tracked (f : RxPath → RxPath) (s : State) : State := { s with watchPath := f s.watchPath }
def hears : State := watching .dwelling r
theorem test_met_GroupsInSearch :
    r.atRest ∧ r.running = true ∧ r.receiving .watch = false ∧ hears.receiving .watch = true ∧ hears.atRest ∧ hears.running = true ∧
    (hears.path .watch).tracker.locked = false ∧ hears.scanner.extended = false ∧ decodeUnits (unitsOf fillSym) = .sym fillSym ∧
    decodeUnits 0#8 = .err ∧ decodeUnits (unitsOf 0) = .sym 0 ∧ decodeUnits (unitsOf phaseA) = .sym phaseA ∧
    decodeUnits (unitsOf phaseB) = .sym phaseB ∧ (tracked (fun x => { x with phasing := 3, lastPhase := some phaseB }) hears).watchPath.phasing < 4 ∧
    (held .link (some 0) .rx (put 0 torv r)).receiving .transceiver = true := by unfold State.atRest; decide +kernel
def inLock (n : Nat) (body : Option (List Group)) (pending : Bool) : State :=
  tracked (fun x => { x with tracker := { x.tracker with locked := true, errRun := n }, body := body, clearPending := pending }) hears
theorem test_met_GroupsInLock :
    [inLock 0 none false, inLock 2 none true, inLock 3 (some [.sym 1]) false, inLock 2 (some []) false].all (fun s =>
      s.signals.isEmpty && s.running && s.receiving .watch && s.watchPath.tracker.locked && !s.scanner.extended) = true ∧
    (inLock 0 none false).family .watch = some .alert ∧ decodeUnits (unitsOf openSym) = .sym openSym ∧
    decodeUnits (unitsOf closeSym) = .sym closeSym ∧ decodeUnits (unitsOf turnSym) = .sym turnSym ∧
    decodeUnits (unitsOf clearSym) = .sym clearSym ∧ decodeUnits (unitsOf 48) = .sym 48 ∧ 0 + 1 ≤ Family.alert.limit := by
  decide +kernel
theorem test_met_RowsOfGroups :
    r.atRest ∧ r.running = true ∧ (r.path .watch).tracker.locked = false ∧ hears.watch.state = .dwelling ∧
    hears.watch.blanked = false ∧ hears.watchPath.phasing < 4 ∧ (inLock 3 none true).receiving .watch = true ∧
    (inLock 3 none true).watchPath.tracker.locked = true ∧ (inLock 3 none true).watchPath.tracker.errRun < 4 := by
  unfold State.atRest; decide +kernel
def histories (h : List Int) : State :=
  tracked (fun x => { x with tracker := { x.tracker with locked := true, history := h } }) hears
theorem test_met_LineTransitions :
    hears.atRest ∧ hears.running = true ∧ (hears.path .watch).tracker.locked = false ∧
    [histories [], histories (List.replicate 15 2), histories (List.replicate 16 (-4))].all
      (fun s => s.watchPath.tracker.locked && s.signals.isEmpty && s.running) = true ∧
    10 < 8 * 0 + 0 + 11 ∧ 8 * 0 + 0 + 10 ≤ 10 ∧ (List.replicate 15 (2 : Int) ++ [3]).length = 16 ∧
    32 < (List.replicate 15 (2 : Int) ++ [3]).sum ∧ ¬ 32 < (List.replicate 15 (2 : Int) ++ [2]).sum ∧
    ((List.replicate 16 (-4 : Int)).drop 1 ++ [-4]).sum < -32 := by unfold State.atRest; decide +kernel

/-! ## What meets the hypotheses: the engines' waits, distress, sounder -/

def calling (l : Link → Link) (s : State) : State :=
  held .link (some 0) .rx (put 0 torv { s with link := l { s.link with state := .calling, channel := some 0, answerWait := true, callTry := 1 } })
theorem test_met_UnansweredCallsAndSilentTurns :
    [calling id lk, calling (fun l => { l with callTry := 2 }) lk].all (fun s => s.signals.isEmpty && s.running && s.link.answerWait &&
      decide (s.link.callTry < 3) && decide (s.holder = some .link) && decide (s.phase = some .rx) && s.grantChannel.isSome &&
      !s.gateClosed && decide (s.monitor = .quiet) && s.tx.list.isEmpty && decide (s.watch.state ≠ .held)) = true ∧
    (calling (fun l => { l with answerWait := false }) lk).link.answerWait = false ∧ (calling id lk).link.phasingWait = false ∧
    (let l := (calling (fun l => { l with callTry := 3, order := [0, 2], index := 1 }) lk).link
     3 ≤ l.callTry ∧ l.order[l.index]? = some 2) ∧
    (let l := (calling (fun l => { l with callTry := 3, order := [0], index := 1 }) lk).link
     3 ≤ l.callTry ∧ l.order[l.index]? = none) ∧
    ((put 2 torv lk).channel 2).valid = true ∧
    ([(LinkState.clearing, 0), (.clearing, 1), (.awaitReply, 1), (.awaitReply, 2)].map fun x =>
      ((calling (fun l => { l with state := x.1, silent := x.2, phasingWait := true, answerWait := false }) lk).link.phasingWait)) =
      [true, true, true, true] := by decide +kernel
def opened (n : Nat) (s : State) : State :=
  { s with bull := { s.bull with recv := some (.open_ 1 n) },
           store := { s.store with part := some ⟨gale.key, 1, 2, 0, [], [], none⟩ } }
theorem test_met_TurnWaitAndSymbolWait :
    lk.atRest ∧ lk.running = true ∧ lk.link.turnWait = false ∧
    ([(LinkState.calling, false, false), (.calling, true, false), (.awaitReply, false, true), (.awaitReply, false, false)].map fun x =>
      ((calling (fun l => { l with state := x.1, connected := x.2.1, phasingWait := x.2.2, turnWait := true }) lk).link.turnWait)) =
      [true, true, true, true] ∧
    lk.bull.recv = none ∧ (opened 0 lk).bull.recv = some (.open_ 1 0) ∧ (opened 3 lk).store.part.isSome = true ∧
    (opened 3 lk).store.bulletinOf gale.key = none ∧ ((opened 3 lk).store.request (opened 3 lk).clock 1 0).isSome = true := by
  unfold State.atRest; decide +kernel
theorem test_met_DistressKey :
    r.atRest ∧ r.running = true ∧ (button true r).pins.dbtn = true ∧ r.pins.dbtn = false ∧ r.own.state = .none ∧
    r.own.state ≠ .arming ∧ (owned .testing r).own.state = .testing ∧ (owned .active r).own.state ≠ .none ∧
    (button true { owned .arming r with own := { (owned .arming r).own with armRet := some true } }).own.armRet = some true ∧
    (owned .arming r).own.armRet ≠ some true ∧ (owned .arming r).cycle = none ∧ (put 20 call (owned .arming r)).watchList ≠ [] ∧
    (owned .arming r).watchList = [] := by unfold State.atRest; decide +kernel
def cycling (ph : CyclePhase) (a : Option PendingAction) (s : State) : State := { s with cycle := some ⟨.alert, [20], 0, ph, a⟩ }
def owning (f : OwnAlert → OwnAlert) (s : State) : State := { s with own := f s.own }
theorem test_met_DistressIntervals :
    r.atRest ∧ r.running = true ∧ r.own.repeatOn = false ∧ (owning (fun o => { o with repeatOn := true }) r).own.repeatOn = true ∧
    ¬ (r.own.state = .active ∨ r.own.state = .cancelPending ∧ r.own.ret = some false) ∧ (owned .active r).own.state = .active ∧
    (owned .active r).cycle = none ∧ (cycling .sending none (owned .active r)).cycle = some ⟨.alert, [20], 0, .sending, none⟩ ∧
    (cycling .sending (some .end_) (owned .active r)).cycle = some ⟨.alert, [20], 0, .sending, some .end_⟩ ∧
    (owning (fun o => { o with state := .cancelPending, ret := some true }) r).own.ret = some true ∧
    (owning (fun o => { o with state := .cancelPending, ret := some false }) r).own.ret = some false ∧
    (cycling .sending none r).cycle.isSome = true ∧ r.own.retryOn = false ∧
    (owning (fun o => { o with retryOn := true }) r).own.retryOn = true ∧ r.own.testWait = false ∧
    (owning (fun o => { o with testWait := true }) r).own.testWait = true := by unfold State.atRest; decide +kernel
theorem test_met_CycleBegins :
    (owning (fun o => { o with retryOn := true }) r).own.retryOn = true ∧ r.running = true ∧ r.watchList = [] ∧
    (put 20 call r).watchList ≠ [] ∧ (put 20 call r).holder ≠ some .distress ∧
    (held .distress (some 20) .rx (put 20 call r)).holder = some .distress ∧
    (held .distress (some 20) .rx (put 20 call r)).phase ≠ some .tx ∧ r.own.noChannel = false ∧
    (owning (fun o => { o with noChannel := true }) r).own.noChannel = true := by decide +kernel
theorem test_met_Cadences : r.atRest ∧ r.running = true ∧ r.alarm.running = none ∧
    ({ r with alarm := { r.alarm with running := some .fault } }).alarm.running.isSome = true := by unfold State.atRest; decide +kernel

/-! ## What meets the hypotheses: ports -/

def busy (st : PortState) (n : Nat) : State :=
  port .a (fun c => { c with state := st, response := some ⟨List.replicate n 0#8, 0⟩ }) r
theorem test_met_PortsThatAreNotReady :
    [busy .ready 0, busy .working 0, busy .responding 8, busy .responding 9].all (fun s => s.signals.isEmpty && s.running) = true ∧
    ((busy .responding 8).port .a).response = some ⟨List.replicate 8 0#8, 0⟩ ∧ (Instr.tget .a).wf = true ∧
    Instr.frame (.tget .a) = some (.a, .tget, []) ∧ (commandFrame .tget []).length = 8 := by decide +kernel
/-- A frame with four bytes of tag, its check made good. -/
def framed (tag : List Byte) : List Byte := 0xA5#8 :: 4#8 :: (tag ++ checkBytes (4#8 :: tag))
theorem test_met_BadTransfersRefused :
    r.atRest ∧ r.running = true ∧ (r.port .c).state = .ready ∧ ([0xA5#8] : List Byte).length < 2 ∧
    judgeTransfer (0xA4#8 :: (framed Tag.tget.name).drop 1) = .badFrame false ∧
    judgeTransfer (framed Tag.tget.name |>.dropLast) = .badFrame false ∧
    judgeTransfer ([0xA5#8, 3#8] ++ Tag.tget.name ++ [0#8, 0#8]) = .badFrame false ∧
    judgeTransfer ([0xA5#8, 251#8] ++ List.replicate 253 0#8) = .badFrame false ∧
    judgeTransfer ([0xA5#8, 4#8] ++ Tag.tget.name ++ [0#8, 0#8]) = .badFrame false ∧
    judgeTransfer (framed (chars ['N', 'O', 'N', 'E']) ++ [0#8]) = .badTag true ∧
    judgeTransfer (framed Tag.tset.name) = .command .tset [] false ∧ Tag.tset.permits (r.port .c).role = false ∧
    Tag.tset.permits (r.port .a).role = true ∧ parseParams .a .tset [] = none := by unfold State.atRest; decide +kernel
theorem test_met_FramesCarryCommands : (Instr.hadd .c okContent).wf = true ∧
    Instr.frame (.hadd .c okContent) = some (.c, .hadd, emitContent okContent) ∧ r.running = true ∧
    (r.port .c).state = .ready := by decide +kernel
theorem test_met_RolesOfCommands : Instr.frame (.hadd .b okContent) = some (.b, .hadd, emitContent okContent) ∧ r.atRest ∧
    r.running = true ∧ (r.port .b).state = .ready ∧ Tag.hadd.permits (r.port .b).role = false := by
  unfold State.atRest; decide +kernel

/-- Right after reset port A is BRIDGE, B RADIO and C CATCH, and each takes the commands of its role. -/
def takes (s : State) (p : Port) (t : Tag) : Bool :=
  s.signals.isEmpty && s.running && decide ((s.port p).state = .ready) && t.permits (s.port p).role
theorem test_takes (s : State) (p : Port) (t : Tag) (h : takes s p t = true) : s.admits p t := by
  simp only [takes, Bool.and_eq_true, decide_eq_true_eq, List.isEmpty_iff] at h
  exact ⟨h.1.1.1, h.1.1.2, h.1.2, h.2⟩

/-! ## What meets the hypotheses: clock, position, identity, channels, carrier, faults -/

theorem test_met_TsetSetsTheClock : takes r .a .tset = true ∧ takes r .b .tset = true ∧
    ([⟨2000, 1, 1, 0, 0, 0⟩, ⟨2099, 12, 31, 23, 59, 59⟩, ⟨2024, 2, 29, 0, 0, 0⟩, ⟨2025, 4, 30, 0, 0, 0⟩].all readingOk = true) ∧
    ([⟨1999, 1, 1, 0, 0, 0⟩, ⟨2100, 1, 1, 0, 0, 0⟩, ⟨2025, 2, 29, 0, 0, 0⟩, ⟨2025, 4, 31, 0, 0, 0⟩, ⟨2025, 0, 1, 0, 0, 0⟩,
      ⟨2025, 13, 1, 0, 0, 0⟩, ⟨2025, 1, 0, 0, 0, 0⟩, ⟨2025, 1, 1, 24, 0, 0⟩, ⟨2025, 1, 1, 0, 60, 0⟩, ⟨2025, 1, 1, 0, 0, 60⟩].all
      fun x => !readingOk x) = true ∧ r.time.state = .unset ∧ takes lk .a .tset = true ∧ lk.time.state ≠ .unset := by
  decide +kernel
theorem test_met_TgetReadsTheTimebase : r.atRest ∧ r.running = true ∧ (r.port .c).state = .ready := by
  unfold State.atRest; decide +kernel
theorem test_met_PositionRecordCommands : takes lk .a .posn = true ∧ takes lk .c .pget = true ∧ lk.position.valid = false ∧
    ([⟨54000, -108000, none⟩, ⟨-54000, 108000, some ⟨2025, 1, 14, 12, 1, 0⟩⟩].all lk.givenOk = true) ∧
    ([⟨54001, 0, none⟩, ⟨0, 108001, none⟩, ⟨0, 0, some ⟨2025, 1, 14, 12, 1, 1⟩⟩, ⟨0, 0, some ⟨2025, 2, 30, 0, 0, 0⟩⟩].all
      fun g => !lk.givenOk g) = true ∧
    instant ⟨2025, 1, 14, 8, 0, 0⟩ + 14400 = instant noon ∧ instant ⟨2025, 1, 14, 7, 59, 59⟩ + 14400 < instant noon := by
  decide +kernel
theorem test_met_ShipWritesTheIdentity : takes r .a .ship = true ∧ isVessel (chars ['j', 'k', '2', '7', 'A', 'B', '9']) = true ∧
    isVessel (chars ['J', 'K', '2', '7', 'A', 'B', '9', '9']) = false ∧ isVessel [] = false ∧ isStation (chars ['t', 'o', 'r', 'v']) = true ∧
    isStation (chars ['T', 'O', 'R']) = false ∧ 24 ≤ 24 ∧ ¬ 25 ≤ 24 ∧ takes (owned .active r) .a .ship = true ∧
    (owned .active r).own.state ≠ .none ∧ r.own.state = .none ∧ r.link.state = .idle := by decide +kernel
theorem test_met_ChrdReadsAnEntry : r.atRest ∧ r.running = true ∧ (r.port .c).state = .ready ∧ 23 < 24 ∧ 23 ≤ 23 := by
  unfold State.atRest; decide +kernel
def rewriting (lost : Bool) (s : State) : State := hold .b (.channel 0) lost (hold .a (.channel 0) false s)
theorem test_met_ChwrRewritesAnEntry :
    takes r .b .chwr = true ∧ takes (rewriting false r) .b .chwr = true ∧ takes (rewriting true r) .b .chwr = true ∧ 3 ≤ 3 ∧
    ChannelRole.traffic.code = okFields.role ∧ channelFieldsOk 23 okFields .traffic = true ∧
    channelFieldsOk 24 okFields .traffic = false ∧ channelFieldsOk 0 { okFields with freq := 15999 } .traffic = false ∧
    channelFieldsOk 0 { okFields with freq := 300001 } .traffic = false ∧ channelFieldsOk 0 { okFields with floor := 256 } .traffic = false ∧
    channelFieldsOk 0 { okFields with valid := false, freq := 0, station := [] } .broadcast = true ∧
    (r.port .b).hold = none ∧ ((rewriting true r).port .b).hold = some ⟨.channel 0, true⟩ ∧
    ((rewriting false r).port .b).hold = some ⟨.channel 0, false⟩ ∧
    (held .link (some 0) .rx (rewriting false r)).grantChannel = some 0 ∧ (rewriting false r).grantChannel ≠ some 0 ∧
    (rewriting false r).own.state = .none ∧ ((rewriting false r).windows.all fun w => decide (w.state ≠ .active)) = true ∧
    (sampling .frameClose false (rewriting false r)).sampler.isSome = true ∧
    (watching .dwelling (hold .b (.channel 20) false r)).watch.entry = some 20 ∧ 20 < r.channels.length := by decide +kernel
theorem test_met_TuneClaims : takes lk .b .tune = true ∧ (23 ≤ 23 ∧ 1 ≤ 30 ∧ 30 ≤ 30) ∧ ¬ (24 ≤ 23) ∧ ¬ (1 ≤ 0) ∧ ¬ (31 ≤ 30) ∧
    takes r .b .tune = true ∧ r.time.state ≠ .locked ∧ lk.time.state = .locked ∧ lk.own.state = .none ∧
    lk.silence.running = false ∧ lk.fault.state ≠ .lockout ∧ (lk.channel 0).valid = false ∧ ((put 0 torv lk).channel 0).valid = true ∧
    Claimant.tune ∈ (waits [.tune] (put 0 torv lk)).arb.waiting ∧ takes (waits [.tune] (put 0 torv lk)) .b .tune = true ∧
    (put 0 torv lk).arb.grant = none ∧ (put 0 torv lk).holder ≠ some .tune ∧ Claimant.tune ∉ (put 0 torv lk).arb.waiting ∧
    (held .link (some 0) .rx (put 0 torv lk)).holder ≠ some .tune ∧
    takes (held .link (some 0) .rx (put 0 torv lk)) .b .tune = true := by decide +kernel
def faulty (st : FaultState) : State := { r with fault := { r.fault with state := st } }
theorem test_met_FaultRecordCommands : takes (faulty .pending) .a .fack = true ∧ takes (faulty .lockout) .b .fack = true ∧
    takes r .a .fack = true ∧ r.fault.state ≠ .pending ∧ takes (faulty .lockout) .b .fclr = true ∧ takes r .b .fclr = true ∧
    r.fault.state = .none := by decide +kernel

/-! ## What meets the hypotheses: message store, haul log, queue, reads -/

def filled (k : Nat) (pages : List Nat) : Store :=
  { Store.cold with slots := List.replicate k (some ⟨none, stamp0, .inbound { letter with read := true, pages := [] }⟩) ++
                             List.replicate (64 - k) none, free := pages, age := List.range k }
theorem test_met_RequestsEvictInOrder :
    -- met at once; met after one candidate; met by none
    (filled 63 []).meets 1 0 = true ∧ (filled 64 []).meets 1 0 = false ∧
    ((filled 64 []).delete .eviction 0).meets 1 0 = true ∧ ((filled 64 []).candidates 0).length = 64 ∧
    (filled 0 []).candidates 0 = [] ∧ (filled 0 []).meets 0 1 = false := by decide +kernel

def outs (st : OutState) (s : State) : State := filed 3 (some .a) (.outbound { draft with state := st }) s
theorem test_met_DraftsAreWritten :
    takes r .a .dopn = true ∧ takes r .c .dopn = true ∧ (r.port .c).role = .catch_ ∧ (r.port .a).role ≠ .catch_ ∧
    MsgClass.routine.code = 2 ∧ isStation (chars ['t', 'o', 'r', 'v']) = true ∧ (r.store.request r.clock 1 0).isSome = true ∧
    ({ r with store := filled 64 [] } : State).store.request 0 1 0 ≠ none ∧
    (Store.request { filled 64 [] with age := [] } 0 1 0) = none ∧ takes (outs .draft r) .a .dapp = true ∧
    takes (outs .draft r) .b .dapp = true ∧ (outs .draft r).record 3 = some ⟨some .a, stamp0, .outbound draft⟩ ∧
    (outs .draft r).record 63 = none ∧ takes (outs .queued r) .a .dapp = true ∧ isText (chars ['a', '1', '.']) = true ∧
    isText [0x21#8] = false ∧ (List.replicate 200 0x41#8).length ≤ 200 ∧ ¬ (List.replicate 201 0x41#8).length ≤ 200 ∧
    (2 + 64 + 63) / 64 - draft.pages.length = 1 ∧
    (({ outs .draft r with store := { (outs .draft r).store with free := [] } } : State).store.request 0 0 1) = none ∧
    ((outs .draft r).store.request 0 0 1).isSome = true := by decide +kernel
theorem test_met_RecordsAreDeletedAndMarked :
    ([OutState.draft, .queued, .sending, .delivered, .failed].all fun st => takes (outs st r) .a .ddis && takes (outs st r) .a .mdel &&
      takes (outs st r) .b .ddis && takes (outs st r) .c .mdel) = true ∧ (outs .draft r).record 63 = none ∧ 63 < 64 ∧
    (outs .draft r).record 3 = some ⟨some .a, stamp0, .outbound draft⟩ ∧ (r.port .b).role = .radio ∧ (r.port .c).role ≠ .radio ∧
    takes (filed 3 none (.inbound letter) r) .b .mdel = true ∧ takes (filed 3 none (.inbound letter) r) .a .mrkr = true ∧
    (filed 3 none (.inbound letter) r).record 3 = some ⟨none, stamp0, .inbound letter⟩ ∧
    takes (filed 3 none (.inbound { letter with state := .receiving }) r) .b .mdel = true ∧
    takes (outs .draft r) .a .mrkr = true := by decide +kernel
theorem test_met_HaddAddsAHaul :
    takes (hauls [] lk) .c .hadd = true ∧ lk.contentOk okContent = true ∧
    lk.contentOk { okContent with last := some ⟨2025, 1, 14, 12, 1, 0⟩ } = true ∧
    lk.contentOk { okContent with last := some ⟨2025, 1, 14, 12, 1, 1⟩ } = false ∧
    lk.contentOk { okContent with first := some ⟨2025, 1, 14, 12, 0, 1⟩ } = false ∧ lk.contentOk { okContent with gear := 0x31#8 } = false ∧
    lk.contentOk { okContent with species := [] } = false ∧
    lk.contentOk { okContent with species := [(chars ['C', 'O', 'D'], 1000000)] } = false ∧
    lk.contentOk { okContent with species := [(chars ['C', 'O', 'D'], 0), (chars ['c', 'o', 'd'], 0)] } = false ∧
    lk.contentOk { okContent with pos := .given ⟨54001, 0, none⟩ } = false ∧
    (hauls [] lk).log.next = some 100 ∧ (hauls [] lk).log.totals.length = 1 ∧
    32 < (List.replicate 32 (⟨chars ['A', 'A', 'A'], 0, 0⟩ : SpeciesTotal)).length + 1 ∧
    (hauls [] lk).log.isFull = false ∧ HaulLog.isFull { HaulLog.cold with next := none } = true ∧
    (hauls (List.replicate 96 (haul 1 .unreported)) lk).log.isFull = true ∧
    (hauls (List.replicate 95 (haul 1 .unreported) ++ [haul 2 .reported]) lk).log.isFull = false ∧
    (hauls (List.replicate 95 (haul 1 .unreported) ++ [haul 2 .reported]) lk).log.toFold = some (haul 2 .reported) := by
  decide +kernel

/-- Haul 7 in a state, held by its port, and reported in slot 3 by a record in a state. -/
def amending (st : HaulState) (lost : Bool) (rec : OutState) (resume : Nat) : State :=
  let s := hold .c (.haul 7) lost (hauls [haul 7 st, haul 8 st] lk)
  filed 3 (some .c) (.outbound { draft with state := rec, resume := resume, hauls := [7, 8] })
    { s with log := { s.log with reports := [⟨1, 3, 5, [7, 8]⟩] }, queue := { s.queue with entries := [3] } }
theorem test_met_HaulsAreAmended :
    ([amending .unreported false .queued 0, amending .reported false .delivered 0, amending .unreported true .queued 0,
      amending .reporting false .sending 0, amending .reporting false .queued 1, amending .reporting false .queued 0,
      hauls [] lk].all fun s => takes s .c .hamd && s.contentOk okContent) = true ∧
    (1 ≤ 1 ∧ 999 ≤ 999) ∧ ¬ 1 ≤ 0 ∧ ¬ 1000 ≤ 999 ∧ ((hauls [] lk).port .c).hold = none ∧
    ((amending .unreported true .queued 0).port .c).hold = some ⟨.haul 7, true⟩ ∧
    ((amending .reported false .queued 0).port .c).hold = some ⟨.haul 7, false⟩ ∧
    (amending .reported false .queued 0).log.haul 7 = some (haul 7 .reported) ∧
    (amending .unreported false .queued 0).log.haul 7 = some (haul 7 .unreported) ∧
    (amending .reporting false .queued 0).log.haul 7 = some (haul 7 .reporting) ∧
    (amending .reporting false .queued 0).log.reports.find? (fun x => decide (7 ∈ x.hauls)) = some ⟨1, 3, 5, [7, 8]⟩ ∧
    (amending .reporting false .queued 0).log.reports.find? (fun x => decide (x.slot = 3)) = some ⟨1, 3, 5, [7, 8]⟩ ∧
    ((amending .reporting false .sending 0).outbound 3).map (·.state) = some .sending ∧
    ((amending .reporting false .queued 1).outbound 3).map (fun o => (o.state, o.resume)) = some (.queued, 1) ∧
    ((amending .reporting false .queued 0).outbound 3).map (fun o => (o.state, o.resume)) = some (.queued, 0) ∧
    (amending .reported false .queued 0).log.speciesFit okContent.species = true ∧
    HaulLog.speciesFit { HaulLog.cold with totals := List.replicate 32 ⟨chars ['A', 'A', 'A'], 0, 0⟩ } okContent.species = false := by
  decide +kernel
theorem test_met_HdelAndTrip :
    ([amending .unreported false .queued 0, amending .unreported true .queued 0, amending .reported false .queued 0,
      hauls [] lk].all fun s => takes s .c .hdel && takes s .c .trip) = true ∧
    ((amending .unreported false .queued 0).port .c).hold = some ⟨.haul 7, false⟩ ∧
    (haul 7 .unreported).cor = false ∧ (haul 7 .reported).state ≠ .unreported ∧ 999 ≤ 999 ∧ 999 < 1000 ∧
    (∃ h ∈ (amending .unreported false .queued 0).log.hauls, h.state ≠ .reported) ∧
    (∀ h ∈ (amending .reported false .queued 0).log.hauls, h.state = .reported) := by decide +kernel
theorem test_met_TotlReadsTheTotals : lk.atRest ∧ lk.running = true ∧ (lk.port .c).state = .ready ∧ 31 ≤ 31 ∧ 31 < 32 := by
  unfold State.atRest; decide +kernel
def reporting : State := named (hauls [haul 7 .unreported, haul 8 .unreported] lk)
def queued48 (s : State) : State := { s with queue := { s.queue with entries := List.range 48 } }
def noRoom (s : State) : State := { s with store := { filled 64 [] with age := [] } }
def noPages (s : State) : State := { s with store := { s.store with free := [] } }
theorem test_met_CrepComposesAReport :
    ([reporting, hauls [haul 7 .unreported] lk, named lk, queued48 reporting, noRoom reporting, noPages reporting].all fun s =>
      takes s .c .crep) = true ∧ reporting.ident.vessel ≠ [] ∧ reporting.log.reportHauls ≠ [] ∧
    (hauls [haul 7 .unreported] lk).ident.vessel = [] ∧ (named lk).log.reportHauls = [] ∧
    48 ≤ (queued48 reporting).queue.entries.length ∧ reporting.queue.entries.length < 48 ∧
    (noRoom reporting).store.request (noRoom reporting).clock 1 0 = none ∧
    ((noPages reporting).store.request (noPages reporting).clock 1 0).isSome = true ∧
    (noPages reporting).store.request (noPages reporting).clock 1 ((reporting.reportBody.length + 63) / 64) = none ∧
    (reporting.store.request reporting.clock 1 ((reporting.reportBody.length + 63) / 64)).isSome = true ∧
    isStation (chars ['T', 'O', 'R', 'V']) = true := by decide +kernel
def urgent (s : State) : State := filed 3 (some .c) (.outbound { draft with cls := .urgent }) s
theorem test_met_QueueCommands :
    ([OutState.draft, .queued, .sending, .delivered, .failed].all fun st => takes (outs st r) .a .dque && takes (outs st r) .b .qexp &&
      takes (outs st r) .a .qwdr && takes (outs st r) .b .qwdr && takes (outs st r) .c .qwdr) = true ∧
    (outs .draft r).record 63 = none ∧ 63 < 64 ∧ takes (urgent r) .c .dque = true ∧ (r.port .c).role = .catch_ ∧ draft.text ≠ [] ∧
    takes (filed 3 (some .a) (.outbound { draft with text := [] }) r) .a .dque = true ∧
    takes (queued48 (outs .draft r)) .a .dque = true ∧ 48 ≤ (queued48 (outs .draft r)).queue.entries.length ∧
    takes (filed 3 (some .a) (.outbound { draft with state := .queued, retry := some 0 }) r) .b .qexp = true ∧
    takes (filed 3 (some .a) (.outbound { draft with state := .queued, resume := 1 }) r) .b .qwdr = true ∧
    takes (amending .reporting false .queued 0) .b .qwdr = true ∧
    ((amending .reporting false .queued 0).outbound 3).map (fun o => (o.hauls, o.state, o.resume)) = some ([7, 8], .queued, 0) ∧
    takes (filed 3 (some .c) (.outbound { draft with state := .failed, hauls := [7] }) r) .b .qwdr = true ∧
    r.log.reports.find? (fun x => decide (x.slot = 3)) = none := by decide +kernel
theorem test_met_ReadingCommands :
    r.atRest ∧ r.running = true ∧ (r.port .a).state = .ready ∧ takes (filed 3 none (.bulletin gale) r) .c .mred = true ∧
    (63 ≤ 63 ∧ 200 ≤ 200) ∧ ¬ (64 ≤ 63) ∧ ¬ (201 ≤ 200) ∧ r.record 63 = none ∧
    (filed 3 none (.bulletin gale) r).record 3 = some ⟨none, stamp0, .bulletin gale⟩ ∧
    gale.parts.find? (fun y => decide (y.number = 1)) = some part ∧ (∀ e ∈ gale.parts, e.number ≠ 2) ∧ part.text.length < 5 ∧
    4 ≤ part.text.length ∧ (1 ≤ 1 ∧ 999 ≤ 999 ∧ 1 ≤ 1) ∧ ¬ (2 ≤ 1) ∧
    (hauls [haul 7 .unreported] r).log.seek 7 0 = some (haul 7 .unreported) ∧
    (hauls [haul 7 .unreported] r).log.seek 8 1 = none ∧ (1 ≤ 48 ∧ 48 ≤ 48) ∧ 48 < 49 ∧ 15 < 16 ∧ (1 ≤ 8 ∧ 8 ≤ 8) ∧ 8 < 9 ∧
    9 < 10 ∧ (r.window 0).enabled = false := by unfold State.atRest; decide +kernel

/-! ## What meets the hypotheses: schedule, own alert, port, alarm -/

def scheduling (lost : Bool) (st : WindowState) (s : State) : State :=
  hold .b (.window 0) lost (slot0 { win with state := st, span := if st = .idle then none else some (0, 1) } (put 1 cast s))
theorem test_met_SkwrRewritesAWindow :
    ([scheduling false .idle lk, scheduling true .idle lk, scheduling false .active lk, scheduling false .due lk, lk].all fun s =>
      takes s .b .skwr && decide (s.windows.length = 16)) = true ∧
    (put 1 cast lk).windowOk 15 { okWindow with subjects := chars ['F', 'i'] } = true ∧ (put 1 cast lk).windowOk 16 okWindow = false ∧
    (put 1 cast lk).windowOk 0 okWindow = false ∧ lk.windowOk 0 { okWindow with subjects := [] } = false ∧
    lk.windowOk 0 { okWindow with enabled := false, subjects := [] } = true ∧
    (put 1 cast lk).windowOk 0 { okWindow with subjects := [], start := 2360 } = false ∧
    (put 1 cast lk).windowOk 0 { okWindow with subjects := [], duration := 61 } = false ∧
    (put 1 cast lk).windowOk 0 { okWindow with subjects := [], every := 5 } = false ∧
    (put 1 cast lk).windowOk 0 { okWindow with subjects := [], areas := [1, 1] } = false ∧
    (put 1 cast lk).windowOk 0 { okWindow with subjects := [], areas := [41] } = false ∧ (lk.port .b).hold = none ∧
    ((scheduling true .idle lk).port .b).hold = some ⟨.window 0, true⟩ ∧
    ((scheduling false .active lk).window 0).state = .active ∧ ((scheduling false .due lk).window 0).state ≠ .active ∧
    ((scheduling false .due lk).port .b).hold = some ⟨.window 0, false⟩ ∧
    -- 12:00 serves a window of 30 minutes at 12:00; none at 06:30 with 6 hours serves it
    ((instant noon - 43200) % (21600 : Nat) = 0) ∧ instant noon + 60 ≤ instant noon + 1800 := by decide +kernel
def alerting (st : AlertState) : State := named (owned st (put 20 call lk))
theorem test_met_AlertsAndTestsBegin :
    ([AlertState.none, .arming, .testing, .active, .acknowledged, .cancelPending, .cancelling].all fun st =>
      takes (alerting st) .a .dalr && takes (alerting st) .b .dtst) = true ∧
    isNature (foldChar 0x66#8) = true ∧ isNature 0x41#8 = false ∧ takes r .a .dalr = true ∧ r.ident.vessel = [] ∧
    takes r .a .dtst = true ∧ (alerting .none).ident.vessel ≠ [] ∧ (alerting .none).watchList = [20] ∧ (alerting .none).cycle = none ∧
    (named lk).watchList = [] ∧ takes (named lk) .a .dtst = true ∧ takes (cycling .sending none (alerting .testing)) .a .dalr = true := by
  decide +kernel
theorem test_met_AlertsAreCancelledAndClosed :
    ([AlertState.none, .active, .acknowledged, .cancelPending].all fun st =>
      takes (alerting st) .a .dcan && takes (alerting st) .b .dcnf && takes (alerting st) .a .dcls) = true ∧
    (alerting .cancelPending).own.requester ≠ some .b ∧
    takes (owning (fun o => { o with requester := some .b }) (alerting .cancelPending)) .b .dcnf = true ∧
    (alerting .cancelPending).cycle = none ∧ (alerting .cancelPending).watchList ≠ [] ∧ (owned .cancelPending r).watchList = [] ∧
    takes (cycling .sending none (alerting .cancelPending)) .b .dcnf = true := by decide +kernel
def heard1 (n : Nat) (acked : Bool) : Heard :=
  { vessel := chars ['L', 'K', '3'], number := n, relay := none, state := .active, nature := some 0x46#8, pos := none, fix := none,
    first := stamp0, last := stamp0, times := 1, acked := acked }
def hearing (l : List Heard) : State := { r with heard := l }
theorem test_met_HackAcknowledges :
    takes (hearing [heard1 7 false]) .a .hack = true ∧ takes (hearing [heard1 7 false, heard1 8 false]) .b .hack = true ∧
    isVessel (chars ['L', 'K', '3']) = true ∧ (1 ≤ 1 ∧ 99 ≤ 99) ∧ ¬ 1 ≤ 0 ∧ ¬ 100 ≤ 99 ∧ isVessel [] = false ∧
    (hearing [heard1 7 false]).heard.find? (fun h => decide (h.vessel = chars ['L', 'K', '3']) && decide (h.number = 7)) =
      some (heard1 7 false) ∧
    (∀ h ∈ (hearing [heard1 7 false]).heard, (decide (h.vessel = chars ['L', 'K', '3']) && decide (h.number = 8)) = false) := by
  decide +kernel
theorem test_met_PortCommands : takes r .a .note = true ∧ takes r .b .mask = true ∧ takes r .c .prst = true ∧
    16384 ≤ (0x4000#16).toNat ∧ (0x3FFF#16).toNat < 16384 := by decide +kernel
theorem test_met_AsilSilencesTheAlarm : takes r .a .asil = true ∧ r.alarm.flags .fault = ⟨false, false⟩ ∧ r.alarm.next = none ∧
    r.alarm.onPart = false ∧ takes (r.alarmEvent .fault) .a .asil = true ∧ (r.alarmEvent .fault).alarm.next = some .fault := by
  decide +kernel
/-- A state other than the one right after reset that meets the premises of the three invariants: a link on air, and a haul. -/
def onAir : State := sends [0, 1] (held .link (some 0) .tx (put 0 torv (hauls [haul 7 .unreported] lk)))
theorem test_met_Invariants : onAir.atRest ∧ onAir.keyOk ∧ onAir.settingsOk ∧ onAir.logOk := by
  refine ⟨rfl, ⟨by decide +kernel, by decide +kernel, by decide +kernel, ?_⟩, ?_, ⟨⟨by decide +kernel, ?_⟩, ?_⟩⟩
  · intro g h _
    cases (Option.some.inj h : (⟨.link, some 0, .tx, none⟩ : Grant) = g)
    exact ⟨rfl, Or.inr (Or.inl rfl)⟩
  · unfold State.settingsOk State.tablesSized State.clockOk Identity.ok PositionRecord.ok Channel.ok Window.ok
    decide +kernel
  · intro n h
    cases (Option.some.inj h : 100 = n)
    decide +kernel
  · unfold HaulLog.balanced
    decide +kernel

/-! ## What meets the hypotheses of the hand-off clauses -/

def sends2 : State := sends [0, 1] (held .link (some 0) .tx lk)
def unitAt (n : Nat) (s : State) : State := { s with tx := { s.tx with unit := n } }
theorem test_met_StepRunsTheFront_units :
    sends2.pending = [] ∧ sends2.running = true ∧ sends2.sending = true ∧ sends2.tx.list = [0, 1] ∧ sends2.tx.unit < 7 ∧
    (unitAt 6 sends2).tx.unit < 7 ∧ 7 ≤ (unitAt 7 sends2).tx.unit ∧ stopped.running = false ∧ r.sending = false ∧
    (r.post .linkTest).signals = [.linkTest] := by decide +kernel

def got (f : Family) (k : Char) (v : Verdict) (payload : List Machine.Group) : FrameRec :=
  ⟨f, v, none, some (letterSym k), some 0, payload, none, stamp0⟩
def said (f : Family) (k : Char) (t : List Char) : FrameRec :=
  got f k .good ((chars t).map fun c => .sym ((symbolOf c).getD 0))
def receiving (st : Option Reception) (s : State) : State :=
  let s := winActive (held .bulletinOrdinary (some 1) .rx (put 1 cast s))
  { s with bull := { s.bull with recv := st } }
def claimed (i : Nat) (s : State) : State :=
  { slot0 { win with state := .due, channel := i } s with bull := { s.bull with claim := some 0 } }
def parted (e n : Nat) (s : State) : State :=
  let s := receiving (some (.open_ e n)) s
  { s with store := { s.store with part := some ⟨gale.key, 1, 2, 0, [], [], none⟩ } }
theorem test_met_SettleEnd_bulletins :
    (let s := claimed 1 (held .bulletinOrdinary none .rx (put 1 cast lk))
     s.holder = some .bulletinOrdinary ∧ s.bull.claim = some 0 ∧ 0 < s.windows.length ∧ (s.window 0).state = .due ∧
     (s.window 0).claimant = .bulletinOrdinary ∧ (s.channel 1).valid = true ∧ (s.channel 1).role = .broadcast ∧
     s.phase ≠ some .tx ∧ (s.channel 2).valid = false) ∧
    ((claimed 2 (held .bulletinOrdinary none .rx (put 1 cast lk))).window 0).channel = 2 ∧
    (receiving none lk).activeWindow = some 0 ∧ (receiving none lk).holder = some .bulletinOrdinary ∧
    (receiving (some .hunt) lk).bull.recv = some .hunt ∧ (receiving (some .hunt) lk).store.part = none ∧
    (parted 1 1 lk).activeWindow = some 0 ∧ (parted 1 1 lk).bull.recv = some (.open_ 1 1) ∧ (parted 1 1 lk).store.part.isSome = true ∧
    ((parted 1 1 lk).store.request (parted 1 1 lk).clock 0 1).isSome = true ∧
    (parted 1 1 { lk with store := { lk.store with free := [] } }).store.request lk.clock 0 1 = none ∧
    (said .bulletin 'A' []).kind ≠ some (letterSym 'T') ∧ (said .bulletin 'T' ['6', '4']).payload = [.sym 32, .sym 30] ∧
    63 < 64 ∧ 0 < 1 ∧ 1 ≤ 31 ∧ 31 < 32 ∧ (got .bulletin 'T' .damaged []).verdict = .damaged ∧
    (got .bulletin 'T' .bad [.err]).verdict = .bad := by decide +kernel
/-- A header naming part 1 of 2 of bulletin TO F 01 14 06, heard by windows that take it and that do not. -/
def heading : FrameRec := said .bulletin 'H' ['T', 'O', 'F', '0', '1', '1', '4', '0', '6', '1', '2']
def taking (areas : List Nat) (s : State) : State :=
  let s := receiving (some .hunt) s
  slot0 { s.window 0 with subjects := [0x46#8], areas := areas } s
theorem test_met_SettleEnd_headers :
    heading.verdict = .good ∧ heading.text = gale.key.office ++ [0x46#8] ++ digits 2 1 ++ digits 2 14 ++ digits 2 6 ++ digits 1 1 ++ digits 1 2 ∧
    parseHeader (chars ['T', 'O']) = none ∧ (taking [1] lk).activeWindow = some 0 ∧ 0x46#8 ∈ ((taking [1] lk).window 0).subjects ∧
    1 ∈ ((taking [1] lk).window 0).areas ∧ 1 ∉ ((taking [2] lk).window 0).areas ∧ (taking [1] lk).store.bulletinOf gale.key = none ∧
    (taking [1] (filed 3 none (.bulletin gale) lk)).store.bulletinOf gale.key = some (3, gale) ∧
    (∃ y ∈ gale.parts, y.number = 1 ∧ y.damaged = 0) ∧ (∀ y ∈ gale.parts, y.number ≠ 2) := by decide +kernel

theorem test_met_ScanDwellAndLevel_extended :
    (let s := { dwell 0 r with scanner := { (dwell 0 r).scanner with extended := true } }
     s.scanner.extended = true ∧ s.scanner.state = .dwelling ∧ s.scanner.current = some 0 ∧ s.holder = some .scan ∧ s.trx.phasing = 0 ∧
     s.signals = [] ∧ s.running = true ∧ s.receiving .transceiver = true ∧ s.trx.tracker.locked = false) ∧
    (sampling .frameClose false (dwell 0 r)).sampler ≠ none := by decide +kernel
theorem test_met_GroupsInSearch_runs :
    (tracked (fun x => { x with phasing := 4, lastPhase := some phaseB }) hears).watchPath.phasing = 4 ∧
    (held .link (some 0) .rx r).arb.grant = some ⟨.link, some 0, .rx, none⟩ ∧
    r.receiving .transceiver = true ∧ r.grantChannel = none ∧ r.trx.tracker.locked = false ∧ r.trx.phasing < 4 := by decide +kernel
def trxLock (body : Option (List Machine.Group)) (s : State) : State :=
  { s with trx := { s.trx with tracker := { s.trx.tracker with locked := true }, body := body, phasing := 3, lastPhase := some phaseB } }
theorem test_met_GroupsInLock_frames :
    (trxLock none r).receiving .transceiver = true ∧ (trxLock none r).trx.tracker.locked = true ∧ (trxLock none r).family .transceiver = none ∧
    (trxLock (some [.sym 1]) (held .link (some 0) .rx r)).family .transceiver = some .link ∧
    (trxLock (some [.sym 1]) (held .link (some 0) .rx r)).arb.grant = some ⟨.link, some 0, .rx, none⟩ ∧
    decodeUnits (unitsOf phaseA) = .sym phaseA ∧ decodeUnits (unitsOf phaseB) = .sym phaseB ∧
    Family.link.limit < (List.replicate Family.link.limit (Machine.Group.sym 1)).length + 1 ∧
    (inLock 0 (some [.sym 1]) true).watchPath.clearPending = true ∧ (inLock 0 (some [.sym 1]) false).watchPath.clearPending = false ∧
    (inLock 0 (some [.sym 1]) false).watch.entry = some 20 ∧ (inLock 0 (some [.sym 1]) false).sampler = none := by decide +kernel

/-! ### The link -/

def linked (st : LinkState) (l : Link → Link) (s : State) : State :=
  held .link (some 0) .rx (put 0 torv (named { s with link := l { s.link with state := st, channel := some 0, station := some (chars ['T', 'O', 'R', 'V']) } }))
def phased (ph : Phase) (s : State) : State := { s with arb := { s.arb with grant := s.arb.grant.map fun g => { g with phase := ph } } }
def mail (o : Outbound) (s : State) : State := { filed 3 (some .a) (.outbound o) s with queue := { s.queue with entries := [3] } }
def post1 : Outbound := { draft with state := .queued, msg := some 5 }
theorem test_met_Link_grant :
    (linked .waitGrant id lk).holder = some .link ∧ (linked .waitGrant id lk).gateClosed = false ∧ (linked .waitGrant id r).gateClosed = true ∧
    (linked .waitGrant id lk).phase = some .rx ∧ (linked .waitGrant id lk).grantChannel.isSome = true ∧
    (linked .waitGrant id lk).tx.list = [] ∧ (linked .waitGrant id lk).monitor ≠ .falling ∧
    (mon .falling (linked .waitGrant id lk)).monitor = .falling ∧ (linked .waitGrant id lk).link.state = .waitGrant ∧
    (linked .waitGrant id lk).stationOrder (chars ['T', 'O', 'R', 'V']) = [0] ∧
    (linked .waitGrant (fun l => { l with station := some [] }) lk).stationOrder [] = [] ∧ ((linked .waitGrant id lk).channel 0).valid = true ∧
    (linked .settling (fun l => { l with order := [0, 2], index := 1 }) lk).link.order[1]? = some 2 ∧
    (linked .settling (fun l => { l with order := [0], index := 1 }) lk).link.order[1]? = none := by decide +kernel
theorem test_met_Link_ends :
    ([LinkState.calling, .sendBurst, .clearing].all fun st => !(linked st id lk).link.ending) = true ∧
    (linked .sendBurst (fun l => { l with ending := true }) lk).link.ending = true ∧
    (let s := asked (linked .awaitReply (fun l => { l with current := some 3 }) (mail { post1 with state := .sending } lk))
     s.asked .link = true ∧ s.phase ≠ some .tx ∧ s.link.state ≠ .idle ∧ s.link.ending = false ∧ s.link.current = some 3 ∧
     s.outbound 3 = some { post1 with state := .sending }) ∧
    ([true, false].all fun e =>
      let s := sends [0, 1] (phased .tx (asked (linked .sendBurst (fun l => { l with ending := e }) lk)))
      s.asked .link && decide (s.phase = some .tx) && decide (s.tx.list ≠ []) && !s.tx.heldBack && decide (s.link.ending = e)) = true := by
  decide +kernel
theorem test_met_Link_frames :
    (linked .calling (fun l => { l with answerWait := true }) lk).link.answerWait = true ∧
    groupText (said .link 'K' ['J', 'K']).payload = (linked .calling id lk).ident.vessel ∧ (said .link 'B' []).payload = [] ∧
    (said .link 'B' []).verdict = .good ∧ (linked .calling id lk).link.answerWait = false ∧ (linked .calling id lk).link.channel = some 0 ∧
    (linked .awaitReply (fun l => { l with turnWait := true }) lk).link.turnWait = true ∧ (linked .awaitReply id lk).link.turnWait = false ∧
    (linked .sendBurst id lk).link.state ≠ .calling ∧ (linked .calling (fun l => { l with turnWait := true, connected := true }) lk).link.turnWait = true := by
  decide +kernel
def sent1 (k : SeqKind) (sends : Nat) : Outstanding := ⟨7, k, 3, 0, 2, sends⟩
theorem test_met_Link_compose :
    (let s := linked .awaitReply id (mail post1 lk)
     s.link.current = none ∧ s.queue.entries.find? (fun n => decide (n = 3)) = some 3 ∧ s.outbound 3 = some post1 ∧
     post1.state = .queued ∧ post1.retry = none ∧ post1.dest = s.link.station.getD [] ∧ 3 ∉ s.link.setAside ∧
     s.takeUp.link.current = some 3) ∧
    (linked .awaitReply (fun l => { l with current := some 3 }) lk).link.current.isSome = true ∧ (linked .awaitReply id lk).queue.entries = [] ∧
    (∃ e ∈ [sent1 .d 6], 6 ≤ e.sends) ∧ (∀ e ∈ [sent1 .d 5], e.sends < 6) ∧
    (linked .awaitReply id lk).inbound.mode ≠ .body ∧ (linked .awaitReply (fun l => { l with quiet := 2 }) lk).link.quiet = 2 := by decide +kernel
theorem test_met_Link_adds :
    (let s := linked .awaitReply (fun l => { l with current := some 3, mDue := true }) (mail post1 lk)
     s.link.outstanding.length < 4 ∧ 1 + 0 + s.link.outstanding.length < 6 ∧ s.link.current = some 3 ∧ s.outbound 3 = some post1 ∧
     s.link.mDue = true) ∧
    (linked .awaitReply (fun l => { l with current := some 3 }) (mail post1 lk)).link.mDue = false ∧
    0 < 9 + (decimal post1.text.length).length + post1.text.length ∧ 9 + (decimal post1.text.length).length + post1.text.length = 12 ∧
    (let l := (linked .awaitReply (fun l => { l with current := some 3, cut := 12, requests := 1 }) lk).link
     12 ≤ l.cut ∧ l.outstanding = [] ∧ l.requests < 2) ∧
    ¬ (linked .awaitReply (fun l => { l with outstanding := List.replicate 4 (sent1 .d 1) }) lk).link.outstanding.length < 4 ∧
    (mail post1 lk).outbound (sent1 .m 1).slot = some post1 ∧ post1.msg = some 5 ∧ (sent1 .p 1).kind = .p := by decide +kernel
def replied (l : List FrameRec) (f : Link → Link) : State :=
  linked .awaitReply (fun x => f { x with turnWait := true, replies := l, current := some 3 }) (mail { post1 with state := .sending } lk)
theorem test_met_CoastBurst :
    (replied [said .link 'A' ['0']] fun l => { l with outstanding := [sent1 .d 1] }).link.replies.head? = some (said .link 'A' ['0']) ∧
    (said .link 'A' ['0']).payload = [.sym (26 + 0)] ∧ (0 + 8 - (sent1 .d 1).seq) % 8 = 1 ∧ 1 ≤ 0 + 1 ∧ (7 + 8 - (sent1 .d 1).seq) % 8 = 0 ∧
    0 + 1 < (1 + 8 - (sent1 .d 1).seq) % 8 ∧ (replied [said .link 'L' []] id).link.outstanding = [] ∧
    (∃ x ∈ (replied [said .link 'L' []] id).link.replies, x.verdict = .good ∧ x.kind = some (letterSym 'L') ∧ x.payload = []) ∧
    (∀ x ∈ (replied [said .link 'A' ['0']] id).link.replies, x.kind ≠ some (letterSym 'L')) := by decide +kernel
theorem test_met_Sequenced :
    (said .link 'D' ['H', 'I']).sequence = some lk.link.recvNext ∧ (said .link 'D' ['H', 'I']).payload.length = 2 ∧
    (linked .awaitReply id lk).inboundOffer (chars ['H', 'I']) ≠ none ∧
    (linked .awaitReply id (noRoom { lk with inbound := { lk.inbound with buffer := List.replicate 12 0x41#8 } })).inboundOffer
      (chars ['H']) = none ∧
    groupText (said .link 'P' ['0', '4', '1', '2']).payload = digits 4 412 ∧ 412 ≤ 9999 ∧
    (filed 3 none (.inbound letter) lk).record 3 = some ⟨none, stamp0, .inbound letter⟩ ∧ letter.state = .complete ∧
    letter.coastMsg = some 412 ∧ (said .link 'Q' []).kind ≠ some (letterSym 'D') := by decide +kernel
theorem test_met_Receipts :
    (replied [] id).link.current = some 3 ∧ (replied [] id).outbound 3 = some { post1 with state := .sending } ∧
    lk.link.current = none ∧ valueOf (groupText (said .link 'Q' ['0', '0', '0', '5']).payload) = some 5 ∧
    (said .link 'N' ['0', '0', '0', '5']).kind = some (letterSym 'N') ∧ (replied [] id).link.notHeld = 0 ∧
    (replied [] fun l => { l with notHeld := 1 }).link.notHeld ≠ 0 ∧ (replied [] id).link.requests < 2 ∧
    2 ≤ (replied [] fun l => { l with requests := 2 }).link.requests ∧
    (amending .reporting false .sending 0).log.reports.find? (fun x => decide (x.slot = 3)) = some ⟨1, 3, 5, [7, 8]⟩ ∧
    ((amending .reporting false .sending 0).outbound 3).map (fun o => decide (o.hauls ≠ [])) = some true := by decide +kernel

/-! ### The inbound side and the closing of a part -/

def body1 : Inbound := { letter with state := .receiving, declared := some 4 }
def inward (m : InMode) (i : Inbound) (s : State) : State :=
  { filed 3 none (.inbound i) s with inbound := { s.inbound with mode := m, current := some 3 } }
def first (l : List Char) : Text := chars l
theorem test_met_Inbound :
    (inward .body body1 lk).inbound.current = some 3 ∧ (inward .body body1 lk).inboundRec 3 = some body1 ∧ body1.state = .receiving ∧
    body1.addressee.hears (lk.port .c).role = true ∧ body1.addressee.hears (lk.port .a).role = false ∧
    some (body1.text.length + 1) ≠ body1.declared ∧ some (2 + 1) = ({ body1 with declared := some 3 } : Inbound).declared ∧
    body1.text.length < 8192 ∧ lk.inbound.mode = .header ∧ lk.store.lowestFree < lk.store.slots.length ∧
    (lk.inboundNeed (chars ['A'])).slots = 0 ∧ (lk.inboundNeed (chars ['A'])).pages = 0 ∧
    (inward .body { body1 with text := [] } lk).inboundNeed (chars ['A']) ≠ (inward .body { body1 with text := [] } lk).inboundNeed [] ∧
    parseFirstLine (first ['+', '0', '4', '1', '2', ' ', 'C', ' ', '2', '0'] ++ [0x0A#8]) = some ⟨412, .catch_, 20⟩ ∧
    parseFirstLine (first ['H', 'I'] ++ [0x0A#8]) = none ∧ (first ['H', 'I'] ++ [0x0A#8]).length ≤ 64 ∧
    13 ≤ (List.replicate 13 0x41#8 : Text).length := by decide +kernel
/-- A record that has all its characters takes none more: RAW at its limit. -/
theorem test_met_Inbound_full : 8192 ≤ ({ body1 with text := List.replicate 8192 0x41#8 } : Inbound).text.length ∧
    (inward .raw body1 lk).inbound.mode = .raw := by
  exact ⟨Nat.le_of_eq (List.length_replicate (n := 8192) (a := (0x41#8 : Byte))).symm, rfl⟩
def damaged (n : Nat) : Bulletin := { gale with parts := [{ part with damaged := n }] }
theorem test_met_ClosedPart :
    (parted 1 0 lk).bull.recv = some (.open_ 1 0) ∧ (parted 1 1 lk).holder = some .bulletinOrdinary ∧
    (parted 1 1 lk).store.part = some ⟨gale.key, 1, 2, 0, [], [], none⟩ ∧ (parted 1 1 lk).store.bulletinOf gale.key = none ∧
    ((parted 1 1 lk).store.request lk.clock 1 0).isSome = true ∧ (parted 1 1 (noRoom lk)).store.request lk.clock 1 0 = none ∧
    gale.key.subject ≠ 0x57#8 ∧
    (parted 1 1 (filed 3 none (.bulletin (damaged 40)) lk)).store.bulletinOf gale.key = some (3, damaged 40) ∧
    ({ gale with count := 0 } : Bulletin).count < 1 ∧ 1 ≤ gale.count ∧
    (damaged 40).parts.find? (fun y => decide (y.number = 1)) = some { part with damaged := 40 } ∧ 32 < 40 ∧ 0 ≤ 0 + 32 ∧
    ({ gale with parts := [] } : Bulletin).parts.find? (fun y => decide (y.number = 1)) = none := by decide +kernel

/-! ### Distress -/

def onCycle (k : CycleKind) (ph : CyclePhase) (pos : Nat) (a : Option PendingAction) (st : AlertState) (g : Phase) : State :=
  { held .distress (some 20) g (put 20 call (put 21 call (named (owned st lk)))) with cycle := some ⟨k, [20, 21], pos, ph, a⟩ }
theorem test_met_CycleBegins_events :
    ([CyclePhase.waitGrant, .settling, .sending].all fun ph =>
      let s := onCycle .alert ph 0 none .active .rx
      decide (s.holder = some .distress) && decide (s.cycle = some ⟨.alert, [20, 21], 0, ph, none⟩) && decide (s.phase = some .rx) &&
      s.grantChannel.isSome && (s.channel 20).valid && (s.channel 21).valid && s.running && decide (s.monitor ≠ .falling)) = true ∧
    (mon .falling (onCycle .alert .settling 0 none .active .rx)).monitor = .falling ∧
    (onCycle .alert .settling 0 none .active .tx).phase = some .tx ∧ ¬ ((onCycle .alert .settling 0 none .active .settling).phase = some .rx) ∧
    (held .distress none .rx r).grantChannel.isSome = false ∧ (lk.channel 20).valid = false ∧
    [20, 21].length ≤ 1 + 1 ∧ 0 + 1 < [20, 21].length ∧
    (onCycle .cancel .sending 1 none .cancelling .rx).own.state = .cancelling ∧ (onCycle .test .sending 1 none .testing .rx).own.state = .testing ∧
    (onCycle .test .sending 1 (some .end_) .arming .rx).own.state = .arming ∧
    ((onCycle .alert .sending 0 (some (.cycle .cancel)) .cancelling .rx).cycle.bind (·.action)) = some (.cycle .cancel) ∧
    CycleKind.alert ≠ .test := by decide +kernel
def other : List Char := ['L', 'K', '3', ' ', '0', '7', ' ', 'F', ' ', '?', ' ', '?']
def placed : List Char := ['L', 'K', '3', ' ', '0', '7', ' ', 'F', ' ', '7', '0', '1', '2', '3', 'N', '/', '0', '1', '9', '3', '3', '0', 'E', ' ', '1', '8', '5', '5']
def spot : Text × Text := (chars ['7', '0', '1', '2', '3', 'N', '/', '0', '1', '9', '3', '3', '0', 'E'], chars ['1', '8', '5', '5'])
def lk3 : Text := chars ['L', 'K', '3']
theorem test_met_Alerts_forms :
    (said .alert 'A' other).text = spaced ([lk3, digits 2 7, [0x46#8]] ++ [[0x3F#8], [0x3F#8]]) ∧
    (said .alert 'A' placed).text = spaced ([lk3, digits 2 7, [0x46#8]] ++ [spot.1, spot.2]) ∧ (said .alert 'A' placed).verdict = .good ∧
    (said .alert 'A' placed).kind = some (letterSym 'A') ∧
    spot.1 = chars ['7', '0', '1', '2', '3'] ++ [0x4E#8, 0x2F#8] ++ chars ['0', '1', '9', '3', '3', '0'] ++ [0x45#8] ∧
    (∀ c ∈ spot.2, isDigit c = true) ∧ (∀ c ∈ lk3, isUpper c = true ∨ isDigit c = true) ∧ r.ident.vessel = [] ∧ lk3 ≠ [0x3F#8] ∧
    (named r).ident.vessel = chars ['J', 'K'] ∧
    (said .alert 'Y' (['T', 'O', 'R', 'V', ' '] ++ placed)).text = spaced (chars ['T', 'O', 'R', 'V'] :: ([lk3, digits 2 7, [0x46#8]] ++ [spot.1, spot.2])) ∧
    (said .alert 'K' ['T', 'O', 'R', 'V', ' ', 'J', 'K', ' ', '0', '7']).text = spaced [chars ['T', 'O', 'R', 'V'], chars ['J', 'K'], digits 2 7] ∧
    (said .alert 'S' ['T', 'O', 'R', 'V']).text = chars ['T', 'O', 'R', 'V'] ∧ (∀ c ∈ chars ['T', 'O', 'R', 'V'], isUpper c = true) ∧
    (said .alert 'Z' []).kind ≠ some (letterSym 'A') ∧ ¬ (said .alert 'S' ['T']).text.length = 4 ∧
    (got .alert 'A' .damaged []).verdict ≠ .good ∧ (watching .held r).watch.state = .held := by decide +kernel
/-- Texts of no form: no field of the family is empty, so the empty text is of none. -/
theorem test_met_Alerts_malformed : (said .alert 'A' []).text = [] ∧ (∀ a b c d e : Text, spaced [a, b, c, d, e] ≠ []) ∧
    (∀ a b c d e f : Text, spaced [a, b, c, d, e, f] ≠ []) ∧ ∀ a b c : Text, spaced [a, b, c] ≠ [] := by
  refine ⟨rfl, fun a b c d e h => ?_, fun a b c d e f h => ?_, fun a b c h => ?_⟩ <;> simp [spaced] at h
theorem test_met_Alerts_heard :
    (hearing [heard1 7 false]).heard.find? (fun x => decide (x.vessel = lk3) && decide (x.number = 7)) = some (heard1 7 false) ∧
    (∀ x ∈ (hearing [heard1 8 false]).heard, (decide (x.vessel = lk3) && decide (x.number = 7)) = false) ∧
    [heard1 8 false].length < 8 ∧ 8 ≤ (List.replicate 8 (heard1 8 true)).length ∧
    (List.replicate 8 (heard1 8 true) = [] ++ heard1 8 true :: List.replicate 7 (heard1 8 true)) ∧ (heard1 8 true).acked = true ∧
    (∀ x ∈ List.replicate 8 (heard1 8 true), (x.acked && decide (x.state ≠ .active)) = false) ∧
    ({ heard1 8 true with state := .cancelled }).state ≠ .active ∧ (∀ x ∈ List.replicate 8 (heard1 8 false), x.acked = false) ∧
    (owning (fun o => { o with number := 7 }) (owned .active (named lk))).own.number = 7 ∧
    (owning (fun o => { o with number := 7, state := .cancelPending, ret := some false }) (named lk)).own.ret = some false ∧
    (owned .testing r).own.state = .testing ∧ (silent { r with silence := { r.silence with coast := some (chars ['T', 'O', 'R', 'V']) } }).silence.running = true := by
  decide +kernel

/-! ### Ports, channels, reads -/

theorem test_met_PortsThatAreNotReady_transfers : ((busy .working 0).port .a).state = .working ∧
    ((busy .responding 9).port .a).response = some ⟨List.replicate 9 0#8, 0⟩ ∧ 9 ≤ (List.replicate 9 0xFF#8 ++ [0xA5#8]).length ∧
    ([0xFF#8] : List Byte).length < 9 ∧ ([] : List Byte) = [] ∧ [0xA5#8] ≠ ([] : List Byte) := by decide +kernel
theorem test_met_ChwrRewritesAnEntry_watch :
    (let s := watching .dwelling (hold .b (.channel 20) false r)
     s.watch.entry = some 20 ∧ 20 < s.channels.length ∧ ((s.port .b).hold = some ⟨.channel 20, false⟩) ∧ takes s .b .chwr = true ∧
     nextEntry (some 20) (put 20 Channel.cold s).watchList = some 21) ∧
    nextEntry (some 20) (put 21 Channel.cold (put 20 Channel.cold (watching .dwelling r))).watchList = none ∧
    { okFields with role := 2 }.valid = true ∧ ChannelRole.distress.code = 2 := by decide +kernel
theorem test_met_ReadingCommands_fields :
    (filed 3 (some .a) (.outbound draft) r).record 3 = some ⟨some .a, stamp0, .outbound draft⟩ ∧
    (filed 3 none (.inbound letter) r).record 3 = some ⟨none, stamp0, .inbound letter⟩ ∧
    ((slot0 win lk).window 0).enabled = true ∧ lk.time.state ≠ .unset ∧ 0 < ((slot0 win lk).window 0).every := by decide +kernel

/-! ### Windows, claims, the gate and the tuner -/

def claim0 (w : Window) (s : State) : State := { slot0 w s with bull := { s.bull with claim := some 0 } }
def slot1 (w : Window) (s : State) : State := { s with windows := s.windows.set 1 w }
def span (a b : Int) (w : Window) : Window := { w with span := some (a, b) }
def due : Window := { win with state := .due }
def act : Window := { win with state := .active }
theorem test_met_ClockSecond_wrap : [TimeState.unset, .holdover, .locked].all (fun st =>
    let s := timed st ⟨2099, 12, 31, 23, 59, 59⟩ r
    s.running && s.time.minute.isNone && decide (s.time.elapsed ≠ 0xFFFFFFFF#32) &&
    decide (s.time.reading = ⟨2099, 12, 31, 23, 59, 59⟩)) = true := by decide +kernel
theorem test_met_ClockMinute_ends :
    (∀ w ∈ (minuteOf .locked ⟨2025, 1, 14, 12, 30, 0⟩ act).windows, 0 < w.duration) ∧
    -- at its end: ACTIVE and claimed, and DUE; no start; not yet at its end
    (let m := instant ⟨2025, 1, 14, 12, 30, 0⟩
     let s := claim0 (span (instant noon) m act) (slot1 (span (instant noon) m due) (minuteOf .locked ⟨2025, 1, 14, 12, 30, 0⟩ act))
     s.bull.claim = some 0 ∧ (s.window 0).state = .active ∧ (s.window 0).enabled = true ∧ nominal (s.window 0) m = false ∧
     (s.window 0).span = some (instant noon, m) ∧ (s.window 1).state ≠ .active ∧ (s.window 1).span = some (instant noon, m) ∧
     (s.window 0).span ≠ some (instant noon, m + 60)) := by decide +kernel
theorem test_met_ClockMinute_review :
    r.bull.claim = none ∧ (∀ w ∈ r.windows, w.state ≠ .due) ∧ ((slot0 due r).window 0).state = .due ∧
    ((slot0 due r).window 0).mandatory = false ∧ (∀ w ∈ (slot0 due r).windows, w.state = .due → w.mandatory = false) ∧
    -- the claim waits for the first DUE window, for one that is no longer DUE, and for a later one
    (claim0 due r).bull.claim = some 0 ∧ ((claim0 due r).window 0).state ≠ .active ∧
    (∀ w ∈ (claim0 win r).windows, w.state ≠ .due) ∧ ((claim0 win r).window 0).state ≠ .active ∧
    ((claim0 due (slot1 { due with mandatory := true } r)).window 1).mandatory = true ∧
    -- the claim window is ACTIVE: mandatory, ordinary with none above it, ordinary under a mandatory DUE one
    ((claim0 { act with mandatory := true } r).window 0).state = .active ∧
    (∀ w ∈ (claim0 act r).windows, w.state ≠ .due) ∧
    (let s := claim0 act (slot1 { due with mandatory := true } r)
     (s.window 0).mandatory = false ∧ (s.window 1).state = .due ∧ (s.window 1).mandatory = true ∧ (s.window 0).state ≠ .due) ∧
    (asked (held .bulletinOrdinary (some 1) .rx (claim0 act r))).asked .bulletinOrdinary = true := by decide +kernel
theorem test_met_RevokeAndCarrierEnd_claims :
    (held .link (some 0) .tx r).holder ≠ some .tune ∧ (held .link (some 0) .tx r).holder = some .link ∧ Claimant.link ≠ .scan ∧
    Claimant.tune ∈ (waits [.tune] r).arb.waiting ∧ Claimant.tune ∉ r.arb.waiting ∧ r.arb.grant = none ∧
    (held .scan (some 0) .rx r).arb.grant = some ⟨.scan, some 0, .rx, none⟩ ∧
    (asked (held .scan (some 0) .rx r)).arb.grant = some ⟨.scan, some 0, .rx, some 5⟩ ∧
    (held .distress (some 0) .rx r).arb.grant = some ⟨.distress, some 0, .rx, none⟩ ∧ Claimant.distress ≠ .link := by
  decide +kernel
theorem test_met_RevokeAndCarrierEnd_gate :
    lk.link.state = .idle ∧ (linked .sendBurst (fun l => { l with ending := true }) lk).link.ending = true ∧
    ([sends [openSym, 1, closeSym, 2] (phased .tx (linked .sendBurst id lk)), linked .awaitReply id lk].map fun s =>
      (decide (s.link.state ≠ .idle), s.link.ending, decide (s.holder = some .link ∧ s.phase = some .tx))) =
      [(true, false, true), (true, false, false)] ∧
    -- the trim: nothing, held back, between frames, inside one with its end to come and without
    r.tx.list = [] ∧
    (let s := mon .falling (sends [1] (phased .tx (linked .sendBurst id { lk with tx := { lk.tx with heldBack := true } })))
     s.tx.list ≠ [] ∧ s.tx.heldBack = true ∧ s.monitor = .falling ∧ s.holder = some .link ∧ s.phase = some .tx) ∧
    (let s := sends [phaseA, openSym] (phased .tx (linked .sendBurst id lk))
     s.tx.list = [phaseA, openSym] ∧ s.tx.heldBack = false ∧ ¬ (phaseA = openSym ∨ s.tx.inFrame = true)) ∧
    closeSym ∉ [openSym, 1] ∧ ([openSym, 1, closeSym, 2] = [openSym, 1] ++ closeSym :: [2]) := by decide +kernel
/-- The last symbol has units to come; a list of several is completed with symbols left. -/
theorem test_met_SymbolsSent_units :
    sends2.arb.grant = some ⟨.link, some 0, .tx, none⟩ ∧ sends2.tx.list = [0, 1] ∧ sends2.monitor = .keyed ∧
    (mon .rising sends2).monitor = .rising ∧ (unitAt 3 sends2).tx.unit = 3 := by decide +kernel
def scanning (last : Option Nat) (s : State) : State := { s with scanner := { s.scanner with last := last } }
theorem test_met_ScanDwellAndLevel_claims :
    (let s := put 0 torv (put 2 cast r)
     s.scanner.state = .idle ∧ s.arb.grant = none ∧ s.arb.waiting = [] ∧ s.scanList = [0, 2] ∧
     nextEntry none s.scanList = some 0 ∧ nextEntry (some 0) s.scanList = some 2 ∧ nextEntry (some 2) s.scanList = some 0 ∧
     (scanning (some 2) s).scanner.last = some 2) ∧
    r.scanList = [] ∧ (dwell 0 r).scanner.state ≠ .idle ∧ (held .link (some 0) .rx r).holder ≠ some .scan ∧
    (held .link (some 0) .rx r).arb.grant ≠ none ∧ (waits [.tune] r).arb.waiting ≠ [] ∧ Claimant.scan ∉ r.arb.waiting ∧
    (let s := dwell 0 r
     s.holder = some .scan ∧ s.scanner.current = some 0 ∧ s.phase ≠ some .tx ∧ (s.channel 0).valid = true) ∧
    ([false, true].all fun e =>
      let s := asked (dwell 2 r)
      let x : State := { s with scanner := { s.scanner with extended := e } }
      x.asked .scan && decide (x.scanner.extended = e) && decide (x.scanner.state = .dwelling) && x.running) = true := by
  decide +kernel
theorem test_met_WatchReceiverSteps_dwell :
    ([WatchState.settling, .dwelling].all fun st => decide ((late 1 (watching st r)).time.elapsed ≠ (late 1 (watching st r)).watch.since)) = true ∧
    (watching .dwelling r).time.elapsed = (watching .dwelling r).watch.since := by decide +kernel
theorem test_met_WatchReceiverSteps_key :
    (watching .held r).watch.state = .held ∧ (watching .held r).watch.entry = some 20 ∧ (watching .dwelling r).watch.state ≠ .held ∧
    nextEntry (some 20) (watching .held r).watchList = some 21 ∧ nextEntry (some 21) (watching .held r).watchList = some 20 ∧
    nextEntry (some 20) ({ r with watch := { r.watch with state := .held, entry := some 20 } }).watchList = none ∧
    (mon .rising r).monitor = .rising ∧ (mon .keyed r).monitor = .keyed := by decide +kernel
/-- An empty body is cut by an OPEN and by a weight error that loses lock. -/
theorem test_met_GroupsInLock_empty :
    (inLock 3 (some []) false).watchPath.body = some [] ∧ (inLock 3 (some []) false).family .watch = some .alert ∧
    3 ≤ (inLock 3 (some []) false).watchPath.tracker.errRun := by decide +kernel
theorem test_met_TsetSetsTheClock_windows :
    takes lk .a .tset = true ∧ readingOk noon = true ∧ lk.time.minute = none ∧ r.time.state = .unset ∧ lk.time.state ≠ .unset ∧
    (∀ w ∈ lk.windows, w.span = none) ∧
    (let a := instant noon
     -- ACTIVE and left; DUE and past its end; DUE and not yet begun; DUE and kept; IDLE and served
     let s := claim0 (span (a - 1800) a act) (slot1 (span (a - 60) (a + 60) due) lk)
     (∀ w ∈ s.windows, 1 ≤ w.every ∧ 1 ≤ w.duration ∧ w.duration ≤ 60 ∧ (w.state = .idle ↔ w.span = none)) ∧
     s.bull.claim = some 0 ∧ (s.window 0).state = .active ∧ (s.window 0).span = some (a - 1800, a) ∧ a ≤ instant s.time.reading ∧
     (s.window 1).state = .due ∧ (s.window 1).span = some (a - 60, a + 60) ∧ instant s.time.reading < a + 60 ∧
     (span a (a + 60) act).span = some (a, a + 60) ∧ (span (a - 1800) a due).span = some (a - 1800, a) ∧
     (span (a + 60) (a + 120) due).span = some (a + 60, a + 120) ∧ a < a + 60 ∧
     nominal win a = true ∧ a - 0 ≤ instant s.time.reading ∧ instant s.time.reading + 60 ≤ a + 1800) := by decide +kernel
theorem test_met_ChrdReadsAnEntry_station : (torv : Channel).station.length ≤ 4 ∧ (Channel.cold).station.length ≤ 4 := by decide +kernel
theorem test_met_ChwrRewritesAnEntry_idle :
    (let s := hold .b (.channel 20) false r
     takes s .b .chwr = true ∧ (s.port .b).hold = some ⟨.channel 20, false⟩ ∧ 20 < s.channels.length ∧ s.watch.entry ≠ some 20 ∧
     s.watch.state = .idle ∧ channelFieldsOk 20 { okFields with role := 2 } .distress = true) ∧
    (watching .dwelling (hold .b (.channel 5) false r)).watch.entry ≠ some 5 ∧ (watching .dwelling r).watch.state ≠ .idle := by
  decide +kernel
def tuning (i d : Nat) (s : State) : State := { s with arb := { s.arb with tune := some ⟨i, d⟩ } }
theorem test_met_TuneClaims_events :
    (let s := tuning 0 30 (held .tune none .rx (put 0 torv lk))
     s.holder = some .tune ∧ s.arb.tune = some ⟨0, 30⟩ ∧ (s.channel 0).valid = true ∧ s.phase ≠ some .tx) ∧
    ((tuning 23 1 (held .tune none .rx lk)).channel 23).valid = false ∧
    (asked (held .tune (some 0) .rx lk)).asked .tune = true := by decide +kernel

/-! ### The link's start and end, and a report withdrawn -/

theorem test_met_Link_starts :
    (let s := named (mail post1 lk)
     s.link.state = .idle ∧ s.time.state = .locked ∧ s.own.state = .none ∧ s.silence.running = false ∧ s.fault.state ≠ .lockout ∧
     s.ident.vessel ≠ [] ∧ s.queue.entries = [3] ∧ s.outbound 3 = some post1 ∧ post1.state = .queued ∧ post1.retry = none) ∧
    (linked .calling id lk).link.state ≠ .idle ∧ lk.ident.vessel = [] ∧ (named lk).queue.entries = [] ∧ (named lk).queue.request = none ∧
    ({ named lk with queue := { lk.queue with request := some (chars ['T', 'O', 'R', 'V']) } }).queue.request =
      some (chars ['T', 'O', 'R', 'V']) ∧
    -- the order: the higher score, then the stronger, then the lower number; POOR channels only where none is better
    (let s := put 0 torv (put 1 { torv with score := 5 } (put 2 { torv with smooth := some 40 } (put 3 { torv with poor := true } lk)))
     s.stationOrder (chars ['T', 'O', 'R', 'V']) = [1, 2, 0]) ∧
    (put 3 { torv with poor := true } lk).stationOrder (chars ['T', 'O', 'R', 'V']) = [3] := by decide +kernel
/-- A report of two hauls under way, at its seventh and at its eighth failing link; and a message waiting for its retry. -/
def failing (attempts : Nat) : State :=
  let s := amending .reporting false .sending 0
  linked .awaitReply (fun l => { l with current := some 3 }) (filed 3 (some .c)
    (.outbound { draft with state := .sending, msg := some 5, hauls := [7, 8], attempts := attempts }) s)
theorem test_met_Link_endsFailing :
    ([6, 7].all fun k =>
      let s := failing k
      decide (s.queue.entries = [3]) && decide ((s.outbound 3).map (fun o => (o.state, o.dest, o.attempts)) =
        some (.sending, s.link.station.getD [], k)) &&
      decide (s.log.reports.find? (fun x => decide (x.slot = 3)) = some ⟨1, 3, 5, [7, 8]⟩)) = true ∧
    (failing 7).queue.entries.Nodup ∧ 6 < 7 ∧ 7 ≤ 7 ∧ [7, 8] ≠ ([] : List Nat) ∧
    (linked .awaitReply id (mail { post1 with retry := some 0 } lk)).outbound 3 = some { post1 with retry := some 0 } ∧
    (every1 (linked .awaitReply id lk)).link.station.getD [] = (every1 (linked .awaitReply id lk)).ident.home ∧
    (every1 (linked .awaitReply id lk)).ident.home ≠ [] ∧ (every1 lk).ident.home = [] ∧ (linked .awaitReply id lk).ident.interval = 0 := by
  decide +kernel
theorem test_met_ClosedPart_expiry : readingOk noon = true ∧ 1 ≤ gale.key.day ∧ gale.key.day ≤ 31 ∧
    readingOk ⟨2000, 1, 1, 0, 0, 0⟩ = true ∧ readingOk ⟨2025, 3, 1, 0, 0, 0⟩ = true ∧ (1 ≤ 31 ∧ 31 ≤ 31) := by decide +kernel
def crowded (s : State) : State :=
  { s with log := { s.log with totals := List.replicate 32 ⟨chars ['A', 'A', 'A'], 0, 0⟩ } }
theorem test_met_HaulsAreAmended_species :
    (let s := crowded (amending .reporting false .queued 0)
     takes s .c .hamd = true ∧ s.log.haul 7 = some (haul 7 .reporting) ∧ (s.port .c).hold = some ⟨.haul 7, false⟩ ∧
     s.log.reports.find? (fun x => decide (7 ∈ x.hauls)) = some ⟨1, 3, 5, [7, 8]⟩ ∧
     (s.outbound 3).map (fun o => (o.state, o.resume)) = some (.queued, 0) ∧
     s.log.totalsOf (chars ['C', 'O', 'D']) = none ∧ ¬ 32 + 1 ≤ 32 ∧ s.log.totals.length = 32) ∧
    (amending .reporting false .queued 0).log.totalsOf (chars ['C', 'O', 'D']) = some (200, 0) ∧
    (amending .reporting false .queued 0).log.totalsOf (chars ['H', 'A', 'D']) = none ∧
    (amending .reporting false .queued 0).log.totals.length + 1 ≤ 32 := by decide +kernel

/-! ### Records, frames, scores and levels spelt out -/

/-- A body of `n` symbols that begins with these and goes on with A, so that its check is not the word of its cover. -/
def bodyOf (n : Nat) (first : List Nat) : List Machine.Group := ((first ++ List.replicate n 0).take n).map .sym
def whyBad (f : Family) (body : List Machine.Group) : Option Reason := (closedRecord f body stamp0).reason
theorem test_met_Records :
    -- the ends of each family's lengths; H is 7, T is 19
    ([4, 5, 21, 22].map fun n => whyBad .link (bodyOf n [3, 26])) = [some .form, some .check, some .check, some .form] ∧
    ([4, 5, 52, 53].map fun n => whyBad .alert (bodyOf n [3])) = [some .form, some .check, some .check, some .form] ∧
    ([14, 15, 16].map fun n => whyBad .bulletin (bodyOf n [7])) = [some .form, some .check, some .form] ∧
    ([5, 6, 38, 39].map fun n => whyBad .bulletin (bodyOf n [19])) = [some .form, some .check, some .check, some .form] ∧
    ([3, 4, 38, 39].map fun n => whyBad .bulletin (bodyOf n [3])) = [some .form, some .check, some .check, some .form] ∧
    -- kind and sequence; a check position of 48; a weight error before all else; a good frame
    ([25, 26].map fun k => whyBad .alert (bodyOf 6 [k])) = [some .check, some .form] ∧
    ([25, 26, 33, 34].map fun q => whyBad .link (bodyOf 6 [3, q])) = [some .form, some .check, some .check, some .form] ∧
    ([47, 48].map fun c => whyBad .link (bodyOf 6 [3, 26, 0, c])) = [some .check, some .form] ∧
    whyBad .link [.err] = some .weight ∧ (.err : Machine.Group) ∈ [.err] ∧
    ([0, 26, 29, 25, 14, 24].map Machine.Group.sym).length = 6 ∧ 25 * 2304 + 14 * 48 + 24 = (checkOver [0, 26, 29]).toNat ∧
    (closedRecord .link ([0, 26, 29, 25, 14, 24].map .sym) stamp0).verdict = .good ∧ 4 < 2 + 3 ∧ 2 + 3 ≤ 6 := by decide +kernel
/-- An overlong T frame brings 32 characters of text at most (log 15). -/
theorem test_overlong : Family.bulletin.limit = 38 ∧
    ((cutRecord .bulletin (bodyOf 38 [19, 26, 27]) true stamp0).payload.drop 2).length = 32 ∧
    blockOf (cutRecord .bulletin (bodyOf 38 [19, 26, 27]) true stamp0) 0 = some (1, List.replicate 32 0x41#8, 32) := by
  decide +kernel
theorem test_met_Frames :
    (∀ c ∈ chars ['T', 'O', 'R', 'V', ' ', 'J', 'K', '2', '7'], c ∈ airAlphabet) ∧ (∀ c ∈ ([] : Text), c ∈ airAlphabet) ∧
    (∀ c ∈ airAlphabet, c ∈ airAlphabet) ∧ airAlphabet.length = 49 ∧ airAlphabet.Nodup ∧ 48 < 49 ∧
    (0 < 4 ∧ 3 < 4) ∧ (1 ≤ 1 ∧ 0 < 10 ^ 1) ∧ (1 ≤ 12 ∧ 12 ≤ 12 ∧ 10 ^ 11 ≤ 10 ^ 12 - 1 ∧ 10 ^ 12 - 1 < 10 ^ 12) := by decide +kernel
theorem test_met_ScoreDecay_scored :
    Channel.cold.valid = false ∧ torv.valid = true ∧
    ([(-64, -1), (-15, -1), (-14, -1), (-2, 1), (-1, 1), (63, 2)].map fun x =>
      max (-64) (min 63 ((({ torv with score := x.1 } : Channel).score) + x.2))) = [-64, -16, -15, -1, 0, (63 : Int)] := by decide +kernel
theorem test_met_ScanDwellAndLevel_smoothed : 0 ≤ (47 : Int) - 31 ∧ (34 : Int) - 35 < 0 ∧ 0 ≤ (5 : Int) - 5 ∧
    smoothed (some 5) 5 = 5 ∧ smoothed (some 0) 255 = 64 ∧ smoothed (some 255) 0 = 191 := by decide
theorem test_met_ClockSecond_next :
    ([⟨2025, 1, 14, 12, 0, 58⟩, ⟨2025, 1, 14, 12, 58, 59⟩, ⟨2025, 1, 14, 22, 59, 59⟩, ⟨2024, 2, 28, 23, 59, 59⟩,
      ⟨2025, 2, 28, 23, 59, 59⟩, ⟨2098, 12, 31, 23, 59, 59⟩].all fun (x : Reading) =>
      readingOk x && decide (x ≠ ⟨2099, 12, 31, 23, 59, 59⟩) && (timed .locked x r).retained) = true := by decide +kernel
/-- What meets the ends of a link that are stated by their cause. -/
theorem test_met_Link_endsByCause :
    (said .link 'B' []).kind = some (letterSym 'B') ∧
    (linked .settling (fun l => { l with order := [0], index := 1 }) lk).link.state = .settling ∧
    (linked .awaitReply id lk).link.state ≠ .idle ∧ (linked .sendBurst (fun l => { l with ending := true }) lk).link.state ≠ .idle := by
  decide +kernel
/-- The claim for the window written: waiting, granted, or none; the receiver idle. -/
theorem test_met_SkwrRewritesAWindow_claims :
    ([hold .b (.window 0) false (claimed 1 (waits [.bulletinOrdinary] (put 1 cast lk))),
      hold .b (.window 0) false (claimed 1 (held .bulletinOrdinary none .rx (put 1 cast lk)))].all fun s =>
      takes s .b .skwr && decide (s.bull.claim = some 0) && decide (s.bull.recv = none) && decide ((s.window 0).state ≠ .active) &&
      decide ((s.port .b).hold = some ⟨.window 0, false⟩) && decide ((s.window 0).claimant = .bulletinOrdinary)) = true ∧
    (waits [.bulletinOrdinary] lk).holder ≠ some .bulletinOrdinary ∧ (scheduling false .idle lk).bull.claim ≠ some 0 ∧
    (put 1 cast lk).windowOk 0 { okWindow with subjects := chars ['F', 'i'] } = true := by decide +kernel
/-- After SKWR the claimant waits no more. -/
theorem test_skwr_withdraws :
    (after (.skwr .b 0 { okWindow with subjects := chars ['F', 'i'] })
      (hold .b (.window 0) false (claimed 1 (waits [.bulletinOrdinary, .tune] (put 1 cast (held .link (some 0) .rx lk)))))).arb.waiting =
      [.tune] := by decide +kernel
/-- Another port's hold on the haul whose report HAMD withdraws is lost. -/
theorem test_met_HaulsAreAmended_holds :
    (let s := hold .b (.haul 7) false (amending .reporting false .queued 0)
     takes s .c .hamd = true ∧ (s.port .b).hold = some ⟨.haul 7, false⟩ ∧ (s.port .a).hold = none ∧
     ((after (.hamd .c 7 okContent) s).port .b).hold = some ⟨.haul 7, true⟩) := by decide +kernel

/-! ## Worked values of the manual -/

theorem test_alphabet : ((List.range 56).all fun n => decide (decodeUnits (unitsOf n) = .sym n) && decide (markCount (unitsOf n) = 3)) = true ∧
    decodeUnits 0x0F#8 = .err ∧ unitsOf 0 = 0x07#8 ∧ unitsOf 55 = 0xE0#8 := by decide +kernel
theorem test_worked_check : crc [0] = 0xE1F0#16 ∧ crc [0, 26] = 0xAE74#16 ∧ crc [0, 26, 29] = 0xE3B8#16 ∧
    linkFrame 'A' 0 (chars ['3']) = [51, 0, 26, 29, 25, 14, 24, 52] ∧
    judge .link ([0, 26, 29, 25, 14, 24].map .sym) = (.good, none) ∧
    judge .link ([0, 26, 30, 25, 14, 24].map .sym) = (.bad, some .check) := by decide +kernel
theorem test_worked_call_burst :
    (burst [linkFrame 'C' 0 (chars ['T', 'O', 'R', 'V', ' ', 'J', 'K', '2', '7'])]).length = 23 := by decide +kernel
def scores (l : List Int) : Int × Bool :=
  let c := l.foldl Channel.scored { torv with score := -1 }
  (c.score, c.poor)
theorem test_worked_scores : scores [-4] = (-5, false) ∧ scores [-4, -4, -4] = (-13, false) ∧ scores [-4, -4, -4, -3] = (-16, true) ∧
    scores [-4, -4, -4, -3, 3] = (-13, true) ∧ scores [-4, -4, -4, -3, 3, 12] = (-1, true) ∧
    scores [-4, -4, -4, -3, 3, 12, 2] = (1, false) := by decide +kernel
theorem test_worked_smoothing : smoothed none 47 = 47 ∧ smoothed (some 31) 47 = 35 ∧ smoothed (some 35) 34 = 34 := by decide
theorem test_worked_calendar : secondAfter ⟨2024, 2, 28, 23, 59, 59⟩ = (⟨2024, 2, 29, 0, 0, 0⟩, false) ∧
    secondAfter ⟨2025, 2, 28, 23, 59, 59⟩ = (⟨2025, 3, 1, 0, 0, 0⟩, false) ∧
    readingAt (instant ⟨2025, 2, 3, 19, 12, 7⟩) = ⟨2025, 2, 3, 19, 12, 7⟩ ∧ readingOk ⟨2025, 2, 29, 0, 0, 0⟩ = false := by
  decide +kernel
/-- Chapter 9: issue day 30, hour 18, received on 2025-03-01 at 09:00. -/
theorem test_worked_issue_time :
    instant ⟨2025, 2, 1, 6, 0, 0⟩ = instant ⟨2025, 1, 30, 18, 0, 0⟩ + 36 * 3600 ∧ 
    expiryOf ⟨2025, 3, 1, 9, 0, 0⟩ ⟨[], 0x46#8, 1, 30, 18⟩ = instant ⟨2025, 2, 1, 6, 0, 0⟩ := by
  decide +kernel

/-! ## Commands -/

/-- The state after a command, its response read. -/
def given (c : Instr) (s : State) (p : Port) : State := after (.responseRead p) (after c s)
/-- The status byte of the response waiting on a port. -/
def status (s : State) (p : Port) : Option Byte := (data s p).bind (·[2]?)

theorem test_tset : (after (.tset .a noon) r).time.reading = noon ∧ (after (.tset .a noon) r).time.state = .holdover ∧
    status (after (.tset .a noon) r) .a = some (byte Status.ok.code) ∧
    status (after (.tset .c noon) r) .c = some (byte Status.role.code) ∧
    status (after (.tset .a ⟨2025, 2, 30, 0, 0, 0⟩) r) .a = some (byte Status.badParam.code) := by decide +kernel
theorem test_ship : (after (.ship .b (chars ['j', 'k', '2', '7']) (chars ['t', 'O', 'R', 'V']) 24) r).ident.vessel = chars ['J', 'K', '2', '7'] := by
  decide +kernel
def drafts : State :=
  let s := given (.dapp .a 0 (List.replicate 100 0x41#8)) (given (.dopn .a 2 (chars ['T', 'O', 'R', 'V'])) lk .a) .a
  given (.dopn .a 2 (chars ['T', 'O', 'R', 'V'])) s .a
/-- Chapter 5: 100 characters take pages 0 and 1, the next draft takes page 2; the free list after the first is discarded. -/
theorem test_worked_pages : (given (.ddis .a 0) (given (.dapp .a 1 (List.replicate 10 0x41#8)) drafts .a) .a).store.free =
    (List.range 512).drop 3 ++ [0, 1] := by decide +kernel
theorem test_dque : ((after (.dque .a 0) drafts).outbound 0).map (fun o => (o.state, o.msg, o.text.length)) = some (.queued, some 1, 100) ∧
    (after (.dque .a 0) drafts).queue.entries = [0] ∧ status (after (.dque .a 1) drafts) .a = some (byte Status.wrongState.code) := by
  decide +kernel

/-- The log of the worked amendment of chapter 6, at event 1. -/
def cod (n : Nat) : Text × Nat := (chars ['C', 'O', 'D'], n)
def had (n : Nat) : Text × Nat := (chars ['H', 'A', 'D'], n)
def red (n : Nat) : Text × Nat := (chars ['R', 'E', 'D'], n)
def worked (n : Nat) (st : HaulState) (f l : Nat × Nat × Nat) (lat lon : Int) (rep : Option Nat) (sp : List (Text × Nat)) : Haul :=
  { number := n, state := st, cor := false, first := ⟨⟨2025, 2, f.1, f.2.1, f.2.2, 0⟩, .locked⟩,
    last := ⟨⟨2025, 2, l.1, l.2.1, l.2.2, 0⟩, .locked⟩, pos := .present lat lon stamp0, gear := 0x42#8, species := sp,
    report := rep, origin := .c }
def season : State :=
  let s := timed .locked ⟨2025, 2, 3, 19, 12, 0⟩ r
  { s with
    ident := { s.ident with vessel := chars ['J', 'K', '2', '7'], trip := 9, nextReport := 12, nextMsg := 340 }
    log := { hauls := [worked 21 .reported (2, 10, 0) (2, 12, 0) 0 0 (some 11) [cod 6200, had 1100],
                       worked 22 .reported (2, 14, 5) (2, 16, 50) 42123 11730 (some 11) [cod 5400, red 800],
                       worked 23 .unreported (2, 18, 20) (2, 21, 10) 42141 11742 none [cod 7000, had 900],
                       worked 24 .unreported (2, 22, 30) (3, 1, 5) 42158 11751 none [cod 4800, red 1300]]
             next := some 25
             totals := [⟨chars ['C', 'O', 'D'], 63400, 40000⟩, ⟨chars ['H', 'A', 'D'], 5000, 3000⟩, ⟨chars ['R', 'E', 'D'], 2100, 0⟩]
             reports := [] } }
def event1 : State := given (.crep .c (chars ['T', 'O', 'R', 'V'])) season .c
def content (sp : List (Text × Nat)) : HaulContent := ⟨none, none, .absent, 0x42#8, sp⟩
def event3 : State :=
  given (.hamd .c 22 (content [cod 5400, red 950])) (hold .c (.haul 22) false event1) .c
def event5 : State :=
  given (.hamd .c 23 (content [cod 6600, had 900])) (hold .a (.haul 23) false (hold .c (.haul 23) false event3)) .c
def totals (s : State) : List Nat := s.log.totals.map (·.total)
def states (s : State) : List (Nat × HaulState × Bool × Option Nat) := s.log.hauls.map fun h => (h.number, h.state, h.cor, h.report)
theorem test_worked_report : states event1 =
      [(21, .reported, false, some 11), (22, .reported, false, some 11), (23, .reporting, false, some 12), (24, .reporting, false, some 12)] ∧
    event1.log.reports = [⟨12, 0, 340, [23, 24]⟩] ∧ event1.ident.nextReport = 13 ∧ event1.ident.nextMsg = 341 ∧
    (event1.outbound 0).map (·.state) = some .queued := by decide +kernel
theorem test_worked_amendment : totals event3 = [63400, 5000, 2250] ∧ totals event5 = [63000, 5000, 2250] ∧
    states event5 = [(21, .reported, false, some 11), (22, .unreported, true, none), (23, .unreported, false, none), (24, .unreported, false, none)] ∧
    event5.record 0 = none ∧ event5.queue.entries = [] ∧ event5.log.reports = [] ∧
    (event5.port .a).hold = some ⟨.haul 23, true⟩ ∧ (event5.port .c).hold = none := by decide +kernel
/-- Event 7: the report made again, with positions as they stood (the amendments above gave none). -/
def event7 : State :=
  { event5 with log := { event5.log with hauls := event5.log.hauls.map fun h =>
      { h with pos := if h.number = 22 then .present 42123 11730 stamp0 else if h.number = 23 then .present 42141 11742 stamp0 else h.pos
               first := if h.number = 22 then ⟨⟨2025, 2, 2, 14, 5, 0⟩, .locked⟩ else if h.number = 23 then ⟨⟨2025, 2, 2, 18, 20, 0⟩, .locked⟩ else h.first
               last := if h.number = 22 then ⟨⟨2025, 2, 2, 16, 50, 0⟩, .locked⟩ else if h.number = 23 then ⟨⟨2025, 2, 2, 21, 10, 0⟩, .locked⟩ else h.last } } }
theorem test_worked_body : ((after (.crep .c (chars ['T', 'O', 'R', 'V'])) event7).outbound 0).map (fun o => (o.text.length, o.pages.length)) =
    some (243, 4) := by decide +kernel

/-! ## Distress and keying -/

/-- Chapter 10: the worked alert on two channels, 111 symbols. -/
def atSea : State :=
  let s := timed .locked ⟨2025, 2, 3, 19, 2, 10⟩ (put 20 call (put 21 call r))
  { s with ident := { s.ident with vessel := chars ['J', 'K', '2', '7'] }, own := { s.own with number := 6 },
           position := ⟨true, 42123, 11730, ⟨⟨2025, 2, 3, 18, 55, 0⟩, .locked⟩⟩ }
theorem test_worked_alert :
    let s := after (.dalr .a 0x46#8) atSea
    s.own.state = .active ∧ s.own.number = 7 ∧ s.own.cycles = 1 ∧
    s.frameBuf = phasingSymbols ++ (List.replicate 3 (alertFrame 'A' (chars ['J', 'K', '2', '7', ' ', '0', '7', ' ', 'F', ' ',
      '7', '0', '1', '2', '3', 'N', '/', '0', '1', '9', '3', '3', '0', 'E', ' ', '1', '8', '5', '5']))).flatten ∧
    s.frameBuf.length = 111 ∧ s.cycle.map (·.channels) = some [20, 21] ∧ s.arb.grant = some ⟨.distress, some 20, .settling, none⟩ ∧
    s.tuner.freq = 21875 := by decide +kernel
/-- Chapter 4: the worked fault sequence, its first, second and third rows. -/
theorem test_worked_faults :
    let s := after .keyNoResponse (mon .rising (sends [0] (held .link (some 4) .tx lk)))
    s.fault = ⟨.pending, some ⟨.noResponse, lk.stamp, some .link, some 4⟩, none, 0⟩ ∧ s.keyLine = false ∧
    (s.port .a).noticed &&& 0x0004#16 ≠ 0 ∧ (after (.fack .a) s).fault.state = .none ∧
    (after .keyStuck (mon .falling s)).fault.state = .lockout ∧ (after .keyStuck (mon .falling s)).monitor = .stuck := by
  decide +kernel
/-- R2, R14: symbol 0 is 00000111: its first unit is a space, its sixth a mark; each change of the word has a strobe. -/
def idled (n : Nat) (s : State) : State :=
  match n with
  | 0 => s
  | k + 1 => match step (idled k s) with
    | .next t => t
    | .fault _ => s
    | .refused _ => s
theorem test_units :
    (let s := (held .link (some 0) .rx (put 0 torv lk)).txRequest .link |>.offer .link [0, 1]
     (s.tuner.space = true ∧ (idled 4 s).tuner.space = true ∧ (idled 5 s).tuner.space = false ∧ (idled 5 s).tstb = s.tstb + 1 ∧
      (idled 7 s).tx.unit = 7 ∧ idled 8 s = idled 7 s ∧ (after .symbolSent (idled 7 s)).tx.unit = 0)) := by decide +kernel
/-- R2, R14: a symbol ended early has its units still to come presented, and the rest after the last symbol too (log 22). -/
theorem test_shifts :
    (let s := (held .link (some 0) .rx (put 0 torv lk)).txRequest .link |>.offer .link [0, 1]
     (after .symbolSent s).tstb = (after .symbolSent (idled 7 s)).tstb ∧ (after .symbolSent s).tuner = (after .symbolSent (idled 7 s)).tuner ∧
     (after .transmissionCompleted s).tstb = (after .transmissionCompleted (idled 7 (after .symbolSent s))).tstb) := by decide +kernel
/-- R177: an S frame, then the expiry of the period it replaced: the silence goes on. The expiry of its own period ends it. -/
theorem test_replaced_silence :
    let s := late 900 (silent r)
    let t := s.silenceOrder (chars ['T', 'O', 'R', 'V'])
    s.silenceExpiry.silence.running = false ∧ t.silenceExpiry = t ∧ (late 1799 t).silenceExpiry.silence.running = false := by decide +kernel
/-- R47: a CHWR on the watch entry, then the expiry of the dwell it replaced: nothing. The next second's expiry steps. -/
theorem test_replaced_dwell :
    let s := after (.chwr .b 20 { okFields with role := 2 }) (late 7 (watching .dwelling (hold .b (.channel 20) false r)))
    s.watch.state = .settling ∧ s.watch.entry = some 20 ∧ after .watchDwellEnd s = s ∧
    (after .watchDwellEnd (late 8 s)).watch.entry = some 21 := by decide +kernel
/-- R31, R33: of a longer station code the first four characters are kept (log 49). -/
theorem test_station :
    ((after (.chwr .b 20 { okFields with role := 2, station := chars ['T', 'O', 'R', 'V', 'I', 'K'] })
      (hold .b (.channel 20) false r)).channel 20).station = chars ['T', 'O', 'R', 'V'] := by decide +kernel
/-- R90: CURRENT with a stale position is PENDING, and the response of HAMD says so after the haul. -/
theorem test_hamd_reason :
    let s := { amending .unreported false .queued 0 with position := ⟨true, 0, 0, ⟨⟨2025, 1, 14, 7, 0, 0⟩, .locked⟩⟩ }
    let i := Instr.hamd .c 7 { okContent with pos := .current }
    ((data (after i s) .c).map fun l => (l.drop (l.length - 5)).take 3) = some [1#8, 1#8, 0#8] := by decide +kernel
/-- R181: in the bulletin line a claim waiting is presence 1 and value 0; none is presence 0. -/
theorem test_stat_claim : r.claimStage = none ∧ (claimed 1 lk).claimStage = some 0 ∧ (receiving none lk).claimStage = some 1 ∧
    PendingAction.code .end_ = 0 ∧ PendingAction.code (.cycle .alert) = 1 := by decide +kernel
/-- R183: bytes past the end of a response set no overrun; one before it does. -/
theorem test_past_response :
    ((after (.badFrame .a (List.replicate 9 0xFF#8 ++ [0xA5#8])) (busy .responding 9)).port .a).overrun = false ∧
    ((after (.badFrame .a (List.replicate 8 0xFF#8 ++ [0xA5#8])) (busy .responding 9)).port .a).overrun = true := by decide +kernel
def waiting : State := { r with pending := [.tget .b, .tget .c] }
theorem test_steps : step waiting = exec (.tget .b) { r with pending := [.tget .c] } ∧ step r = .next r ∧
    step (State.withFetchWord r 8 0) = .next r := ⟨rfl, rfl, rfl⟩

end Sys2Proof.Tests
end

/-! PROOFS. Console commands on the clock (R26): a command that only reads, and what TGET reads. -/
section
namespace Sys2Proof.Machine

/-! ## Commands that read -/

/-- R182: an admitted command whose rule accepts the state as it stands only forms its response: with nothing changed,
nothing is handed on. -/
theorem command_reads (s : State) (p : Port) (t : Tag) (n : Nat) (data : State → List Byte) (h : s.admits p t) :
    command p t n (fun s => accept s data) s = .next (s.respond p .ok (data s)) := by
  have atRest : s.signals = [] := h.1
  rw [command_of_admits s p t n _ h, State.carryOut_still s p _ atRest]
  rfl

/-! ## TGET -/

theorem Tag.tget_permits (r : Role) : Tag.tget.permits r = true := by
  cases r <;> rfl

/-- R182: a command that every role may give is admitted on a running part at rest wherever its port is READY. -/
theorem State.admits_of_permits_all (s : State) (p : Port) (t : Tag) (hall : ∀ r, t.permits r = true)
    (hrest : s.atRest) (hrun : s.running = true) (hready : (s.port p).state = .ready) : s.admits p t :=
  ⟨hrest, hrun, hready, hall (s.port p).role⟩

/-- R26: the fields of the timebase, in the order of the response. -/
theorem State.timeData_eq (s : State) :
    s.timeData =
      u16 s.time.reading.year ++ u8 s.time.reading.month ++ u8 s.time.reading.day ++ u8 s.time.reading.hour ++
        u8 s.time.reading.minute ++ u8 s.time.reading.second ++ u8 s.time.state.code ++ emitFlag s.time.qualified ++
        u8 s.time.good ++ u8 s.time.bad ++ u32 s.time.elapsed.toNat := rfl

theorem exec_tget (p : Port) (s : State) : exec (.tget p) s = execTget p s := rfl

theorem execTget_of_admits (s : State) (p : Port) (h : s.admits p .tget) :
    execTget p s = .next (s.respond p .ok s.timeData) :=
  command_reads s p .tget (Instr.paramSize (.tget p)) State.timeData h

/-- Settles O34: TGET is admitted to every role, and its rule accepts the state unchanged with the timebase as data. -/
theorem tgetReadsTheTimebase : Obligations.TgetReadsTheTimebase := by
  unfold Obligations.TgetReadsTheTimebase
  refine ⟨Tag.tget_permits, fun s p hrest hrun hready => ?_⟩
  have hadmits : s.admits p .tget := s.admits_of_permits_all p .tget Tag.tget_permits hrest hrun hready
  rw [exec_tget, execTget_of_admits s p hadmits, State.timeData_eq]

end Sys2Proof.Machine
end

/-! PROOFS. Console commands on the channel table: CHRD (R32), its data, and the hold it sets. -/
section
namespace Sys2Proof.Machine

/-! ## Sizes of a response's fields (R181) -/

@[simp] theorem length_i8 (i : Int) : (i8 i).length = 1 := rfl
@[simp] theorem length_emitStamp (t : Stamp) : (emitStamp t).length = 8 := rfl

/-- R181: a value that may be absent takes at most its presence byte and the bytes of a value. -/
theorem length_emitOpt_le {α : Type} (f : α → List Byte) (n : Nat) (hf : ∀ x, (f x).length = n) (o : Option α) :
    (emitOpt f o).length ≤ n + 1 := by
  cases o with
  | none => exact Nat.le_add_left 1 n
  | some x => exact Nat.le_of_eq (congrArg (· + 1) (hf x))

/-! ## The data of CHRD -/

/-- R31, R32: the fields of an entry, in the order of the response. -/
theorem emitChannel_eq (c : Channel) :
    emitChannel c =
      emitFlag c.valid ++ u8 c.role.code ++ u32 c.freq ++ emitText c.station ++ u8 c.floor ++ i8 c.score ++
        emitFlag c.poor ++ emitOpt u8 c.last ++ emitOpt u8 c.smooth ++ emitOpt emitStamp c.scanned ++
        emitOpt emitStamp c.good := rfl

/-- An entry takes its code and at most 32 bytes besides: ten of fixed size, 4 for the levels and 18 for the stamps. -/
theorem length_emitChannel_le (c : Channel) : (emitChannel c).length ≤ c.station.length + 32 := by
  have hlast : (emitOpt u8 c.last).length ≤ 2 := length_emitOpt_le u8 1 length_u8 c.last
  have hsmooth : (emitOpt u8 c.smooth).length ≤ 2 := length_emitOpt_le u8 1 length_u8 c.smooth
  have hscanned : (emitOpt emitStamp c.scanned).length ≤ 9 := length_emitOpt_le emitStamp 8 length_emitStamp c.scanned
  have hgood : (emitOpt emitStamp c.good).length ≤ 9 := length_emitOpt_le emitStamp 8 length_emitStamp c.good
  simp only [emitChannel_eq, List.length_append, length_emitFlag, length_u8, length_u32, length_emitText, textSize,
    length_i8]
  omega

/-! ## The hold of a read -/

@[simp] theorem State.holdIf_false (s : State) (p : Port) (r : HoldRef) : s.holdIf p false r = s := rfl

@[simp] theorem State.holdIf_true (s : State) (p : Port) (r : HoldRef) :
    s.holdIf p true r = s.setPort p { s.port p with hold := some ⟨r, false⟩ } := rfl

@[simp] theorem State.holdIf_signals (s : State) (p : Port) (hold : Bool) (r : HoldRef) :
    (s.holdIf p hold r).signals = s.signals := by
  cases hold with
  | false => rw [State.holdIf_false]
  | true => rw [State.holdIf_true, State.setPort_signals]

/-- R32: a hold is the port's own; every entry of the channel table stays as it is. -/
@[simp] theorem State.holdIf_channel (s : State) (p : Port) (hold : Bool) (r : HoldRef) (i : Nat) :
    (s.holdIf p hold r).channel i = s.channel i := by
  cases hold with
  | false => rw [State.holdIf_false]
  | true => rw [State.holdIf_true, State.channel, State.setPort_channels, State.channel]

/-! ## CHRD -/

theorem Tag.chrd_permits (r : Role) : Tag.chrd.permits r = true := by
  cases r <;> rfl

theorem chrdRule_of_gt (p : Port) (i : Nat) (hold : Bool) (s : State) (h : 23 < i) :
    chrdRule p i hold s = refuse s .badParam := by
  rw [chrdRule, need, decide_eq_false (Nat.not_le.mpr h)]
  rfl

theorem chrdRule_of_le (p : Port) (i : Nat) (hold : Bool) (s : State) (h : i ≤ 23) :
    chrdRule p i hold s = accept (s.holdIf p hold (.channel i)) fun t => emitChannel (t.channel i) := by
  rw [chrdRule, need, decide_eq_true h]
  rfl

theorem exec_chrd (p : Port) (i : Nat) (hold : Bool) (s : State) : exec (.chrd p i hold) s = execChrd p i hold s := rfl

/-- R32: an index above 23 is refused, and no hold is set. -/
theorem execChrd_of_gt (s : State) (p : Port) (i : Nat) (hold : Bool) (hadmits : s.admits p .chrd) (h : 23 < i) :
    execChrd p i hold s = .next (s.respond p .badParam []) :=
  command_refused s p .chrd _ _ .badParam hadmits (chrdRule_of_gt p i hold s h)

/-- R32, R184: the entry as it stands, on the state with the hold asked for. Setting a hold hands nothing on. -/
theorem execChrd_of_le (s : State) (p : Port) (i : Nat) (hold : Bool) (hadmits : s.admits p .chrd) (h : i ≤ 23) :
    execChrd p i hold s = .next ((s.holdIf p hold (.channel i)).respond p .ok (emitChannel (s.channel i))) := by
  have hrule := chrdRule_of_le p i hold s h
  have hstill : (chrdRule p i hold s).state.signals = [] := by
    rw [hrule]
    exact (s.holdIf_signals p hold _).trans hadmits.1
  rw [execChrd, command_of_admits s p .chrd _ _ hadmits, State.carryOut_still s p _ hstill, hrule]
  simp only [accept, State.holdIf_channel]

/-- Settles O37: CHRD is admitted to every role; its rule refuses an index above 23, and otherwise answers the entry on
the state with the hold set or not. -/
theorem chrdReadsAnEntry : Obligations.ChrdReadsAnEntry := by
  unfold Obligations.ChrdReadsAnEntry
  refine ⟨Tag.chrd_permits, fun s p i hrest hrun hready => ?_⟩
  have hadmits : s.admits p .chrd := s.admits_of_permits_all p .chrd Tag.chrd_permits hrest hrun hready
  simp only [exec_chrd, ← emitChannel_eq]
  refine ⟨fun hcode => ?_, fun hold hi => ?_, fun hi => ?_, fun hi => ?_⟩
  · have hsize := length_emitChannel_le (s.channel i)
    omega
  · exact execChrd_of_gt s p i hold hadmits hi
  · exact execChrd_of_le s p i false hadmits hi
  · exact execChrd_of_le s p i true hadmits hi

end Sys2Proof.Machine
end

/-! PROOFS. Console commands on the haul log that only read: TOTL (R100), and its data. -/
section
namespace Sys2Proof.Machine

/-! ## The data of TOTL -/

/-- R181: a list is its length in one byte and its members. -/
theorem emitList_eq (l : List (List Byte)) : emitList l = u8 l.length ++ l.flatten := rfl

theorem HaulLog.inState_eq_length_filter (l : HaulLog) (st : HaulState) :
    l.inState st = (l.hauls.filter fun h => decide (h.state = st)).length := List.countP_eq_length_filter

/-- R100: the fields of the response in their order, each count as the length of the list counted. -/
theorem State.totalsData_eq (s : State) (n : Nat) :
    s.totalsData n =
      let hauls : HaulState → Nat := fun st => (s.log.hauls.filter fun h => decide (h.state = st)).length
      let shown := (s.log.totals.drop n).take 16
      u16 s.ident.trip ++ u16 s.ident.nextReport ++ emitOpt u16 s.log.next ++
        u8 (hauls .unreported) ++ u8 (hauls .reporting) ++ u8 (hauls .reported) ++
        u8 (s.log.hauls.filter (·.cor)).length ++ u8 s.log.totals.length ++ u8 shown.length ++
        (shown.map fun x => emitText x.code ++ u32 x.total ++ u32 x.carried).flatten ++ u8 s.log.reports.length := by
  simp only [State.totalsData, emitList_eq, List.length_map, HaulLog.inState_eq_length_filter,
    List.countP_eq_length_filter, List.append_assoc]

/-! ## TOTL -/

theorem Tag.totl_permits (r : Role) : Tag.totl.permits r = true := by
  cases r <;> rfl

theorem totlRule_of_gt (n : Nat) (s : State) (h : 31 < n) : totlRule n s = refuse s .badParam := by
  rw [totlRule, need, decide_eq_false (Nat.not_le.mpr h)]
  rfl

theorem totlRule_of_le (n : Nat) (h : n ≤ 31) : totlRule n = fun s => accept s fun t => t.totalsData n := by
  funext s
  rw [totlRule, need, decide_eq_true h]
  rfl

theorem exec_totl (p : Port) (n : Nat) (s : State) : exec (.totl p n) s = execTotl p n s := rfl

/-- R100: an index above 31 is refused. -/
theorem execTotl_of_gt (s : State) (p : Port) (n : Nat) (hadmits : s.admits p .totl) (h : 31 < n) :
    execTotl p n s = .next (s.respond p .badParam []) :=
  command_refused s p .totl _ _ .badParam hadmits (totlRule_of_gt n s h)

/-- R100: the totals as they stand; nothing changes but the port that responds. -/
theorem execTotl_of_le (s : State) (p : Port) (n : Nat) (hadmits : s.admits p .totl) (h : n ≤ 31) :
    execTotl p n s = .next (s.respond p .ok (s.totalsData n)) := by
  rw [execTotl, totlRule_of_le n h]
  exact command_reads s p .totl _ (fun t => t.totalsData n) hadmits

/-- Settles O47: TOTL is admitted to every role; its rule refuses an index above 31, and otherwise accepts the state
unchanged with the totals from that index as data. -/
theorem totlReadsTheTotals : Obligations.TotlReadsTheTotals := by
  unfold Obligations.TotlReadsTheTotals
  refine ⟨Tag.totl_permits, fun s p n hrest hrun hready => ?_⟩
  have hadmits : s.admits p .totl := s.admits_of_permits_all p .totl Tag.totl_permits hrest hrun hready
  simp only [exec_totl]
  refine ⟨execTotl_of_gt s p n hadmits, fun hn => ?_⟩
  rw [execTotl_of_le s p n hadmits hn, State.totalsData_eq]
  cases s.log.next with
  | none => rfl
  | some k => rfl

end Sys2Proof.Machine
end

/-! PROOFS. Console commands on the alarm: ASIL (R189), on rules for the causes' flags and the next cadence (R188). -/
section
namespace Sys2Proof.Machine

/-! ## The causes' flags (R188) -/

theorem Alarm.flags_setFlags (a : Alarm) (c d : Cause) (f : CauseFlags) :
    (a.setFlags c f).flags d = if d = c then f else a.flags d := by
  cases c <;> cases d <;> rfl

@[simp] theorem Alarm.flags_setFlags_same (a : Alarm) (c : Cause) (f : CauseFlags) : (a.setFlags c f).flags c = f := by
  rw [Alarm.flags_setFlags, if_pos rfl]

theorem Alarm.flags_setFlags_of_ne (a : Alarm) {c d : Cause} (f : CauseFlags) (h : d ≠ c) :
    (a.setFlags c f).flags d = a.flags d := by
  rw [Alarm.flags_setFlags, if_neg h]

/-! ## The next cadence (R188) -/

/-- R188: the order of priority, as the order of a search. -/
theorem Alarm.loudest_eq_find (a : Alarm) :
    a.loudest = [Cause.distressHeard, .ownAlert, .fault, .warning].find? fun c => (a.flags c).sounds := by
  simp only [Alarm.loudest, List.find?_cons, List.find?_nil, Alarm.flags]
  cases a.distressHeard.sounds <;> cases a.ownAlert.sounds <;> cases a.fault.sounds <;> cases a.warning.sounds <;> rfl

theorem Alarm.loudest_eq_none (a : Alarm) (h : ∀ c, (a.flags c).sounds = false) : a.loudest = none := by
  rw [a.loudest_eq_find, List.find?_eq_none]
  intro c _
  simp only [h c, Bool.false_eq_true, not_false_iff]

/-- A cause that alone sounds is the loudest, whatever its priority. -/
theorem Alarm.loudest_eq_some (a : Alarm) (c : Cause) (hc : (a.flags c).sounds = true)
    (h : ∀ d, d ≠ c → (a.flags d).sounds = false) : a.loudest = some c := by
  rw [a.loudest_eq_find]
  cases c <;> simp [hc, h]

@[simp] theorem Alarm.update_flags (a : Alarm) (c : Cause) : a.update.flags c = a.flags c := by
  unfold Alarm.update
  split <;> cases c <;> rfl

@[simp] theorem Alarm.update_next (a : Alarm) : a.update.next = a.loudest := by
  unfold Alarm.update
  split <;> rfl

/-- R188: with no cause to sound the next cadence is off; a running one runs on to the end of its period. -/
theorem Alarm.update_of_loudest_none (a : Alarm) (h : a.loudest = none) :
    a.update = { a with next := none, onPart := if a.running = none then false else a.onPart } := by
  unfold Alarm.update
  split
  next hoff => simp only [h, hoff, Option.isSome_none, if_true]
  next c hrun => simp only [h, hrun, reduceCtorEq, if_false]

/-- R188: in an alarm in which nothing sounds, a cause set to sound makes the next cadence its own. -/
theorem Alarm.setFlags_sounds (a : Alarm) (c : Cause) (h : ∀ d, (a.flags d).sounds = false) :
    (a.setFlags c ⟨true, false⟩).update.flags c = ⟨true, false⟩ ∧ (a.setFlags c ⟨true, false⟩).update.next = some c := by
  refine ⟨by simp, ?_⟩
  rw [Alarm.update_next]
  refine Alarm.loudest_eq_some _ c ?_ fun d hd => ?_
  · rw [Alarm.flags_setFlags_same]
    rfl
  · rw [Alarm.flags_setFlags_of_ne a _ hd]
    exact h d

/-- R188: a new event is silenced by nothing that came before it. -/
theorem Alarm.event_sounds (a : Alarm) (c : Cause) (h : ∀ d, (a.flags d).sounds = false) :
    (a.event c).flags c = ⟨true, false⟩ ∧ (a.event c).next = some c :=
  a.setFlags_sounds c h

/-- R188: a cause that was inactive, its silenced flag clear, sounds when it becomes active. -/
theorem Alarm.setActive_sounds (a : Alarm) (c : Cause) (hc : a.flags c = CauseFlags.off)
    (h : ∀ d, (a.flags d).sounds = false) :
    (a.setActive c true).flags c = ⟨true, false⟩ ∧ (a.setActive c true).next = some c := by
  have hset : a.setActive c true = (a.setFlags c ⟨true, false⟩).update := by
    rw [Alarm.setActive, if_pos rfl, hc]
    rfl
  rw [hset]
  exact a.setFlags_sounds c h

/-! ## The alarm an ASIL leaves (R189) -/

/-- R189: a cause active at the command is silenced, and an inactive one does not sound in any case. -/
@[simp] theorem CauseFlags.hush_sounds (f : CauseFlags) : f.hush.sounds = false := by
  unfold CauseFlags.hush CauseFlags.sounds
  split
  next => exact Bool.and_false _
  next hoff => rw [Bool.of_not_eq_true hoff, Bool.false_and]

@[simp] theorem CauseFlags.hush_off : CauseFlags.off.hush = CauseFlags.off := rfl

/-- R189: WARNING is made inactive, the other causes are hushed, and the next cadence is recomputed: none sounds, so it
is off. -/
theorem Alarm.hushed_eq (a : Alarm) :
    a.hushed = { a with distressHeard := a.distressHeard.hush, ownAlert := a.ownAlert.hush, fault := a.fault.hush,
                        warning := CauseFlags.off, next := none,
                        onPart := if a.running = none then false else a.onPart } := by
  refine Alarm.update_of_loudest_none _ (Alarm.loudest_eq_none _ fun c => ?_)
  cases c with
  | distressHeard => exact a.distressHeard.hush_sounds
  | ownAlert => exact a.ownAlert.hush_sounds
  | fault => exact a.fault.hush_sounds
  | warning => rfl

theorem Alarm.hushed_flags (a : Alarm) (c : Cause) :
    a.hushed.flags c = if c = .warning then CauseFlags.off else (a.flags c).hush := by
  rw [a.hushed_eq]
  cases c <;> rfl

theorem Alarm.hushed_silent (a : Alarm) (c : Cause) : (a.hushed.flags c).sounds = false := by
  rw [a.hushed_flags c]
  split
  next => rfl
  next => exact CauseFlags.hush_sounds _

theorem Alarm.hushed_flags_of_off (a : Alarm) (c : Cause) (h : a.flags c = CauseFlags.off) :
    a.hushed.flags c = CauseFlags.off := by
  rw [a.hushed_flags c, h, CauseFlags.hush_off, ite_self]

/-- R189: with no cause active and the cadences as R188 leaves them then, an ASIL changes nothing. -/
theorem Alarm.hushed_of_off (a : Alarm) (h : ∀ c, a.flags c = CauseFlags.off) (hnext : a.next = none)
    (hpart : a.running = none → a.onPart = false) : a.hushed = a := by
  obtain ⟨distressHeard, ownAlert, fault, warning, running, onPart, next⟩ := a
  obtain rfl : distressHeard = CauseFlags.off := h .distressHeard
  obtain rfl : ownAlert = CauseFlags.off := h .ownAlert
  obtain rfl : fault = CauseFlags.off := h .fault
  obtain rfl : warning = CauseFlags.off := h .warning
  obtain rfl : next = none := hnext
  rw [Alarm.hushed_eq]
  cases running with
  | none =>
    obtain rfl : onPart = false := hpart rfl
    rfl
  | some c => rfl

/-- R189: the four causes' flags in the response; WARNING's two are clear. -/
theorem Alarm.hushed_flagData (a : Alarm) :
    a.hushed.flagData =
      emitFlag a.distressHeard.hush.active ++ emitFlag a.distressHeard.hush.silenced ++
        (emitFlag a.ownAlert.hush.active ++ emitFlag a.ownAlert.hush.silenced) ++
        (emitFlag a.fault.hush.active ++ emitFlag a.fault.hush.silenced) ++ [0#8, 0#8] := by
  simp only [Alarm.flagData, List.flatMap_cons, List.flatMap_nil, Alarm.hushed_flags]
  rfl

/-! ## ASIL -/

theorem Tag.asil_permits (r : Role) : Tag.asil.permits r = decide (r = .bridge ∨ r = .radio) := by
  cases r <;> rfl

theorem exec_asil (p : Port) (s : State) : exec (.asil p) s = execAsil p s := rfl

/-- R189: the alarm is hushed and its flags answered. Hushing hands nothing on. -/
theorem execAsil_of_admits (s : State) (p : Port) (hadmits : s.admits p .asil) :
    execAsil p s = .next ({ s with alarm := s.alarm.hushed }.respond p .ok s.alarm.hushed.flagData) := by
  have hstill : (asilRule s).state.signals = [] := hadmits.1
  rw [execAsil, command_of_admits s p .asil _ _ hadmits, State.carryOut_still s p _ hstill]
  rfl

@[simp] theorem State.respond_alarm (s : State) (p : Port) (st : Status) (d : List Byte) :
    (s.respond p st d).alarm = s.alarm := rfl

theorem alarm_of_exec_asil (s t : State) (p : Port) (hadmits : s.admits p .asil) (ht : exec (.asil p) s = .next t) :
    t.alarm = s.alarm.hushed := by
  rw [exec_asil, execAsil_of_admits s p hadmits] at ht
  rw [← Host.Outcome.next.inj ht, State.respond_alarm]

/-- Settles O56: ASIL leaves the hushed alarm, in which nothing sounds; with every cause off that is the alarm it found,
and a cause that takes an event or becomes active is the only one that sounds. -/
theorem asilSilencesTheAlarm : Obligations.AsilSilencesTheAlarm := by
  unfold Obligations.AsilSilencesTheAlarm
  refine ⟨Tag.asil_permits, fun s p hadmits => ⟨?_, fun hoff hnext hpart => ?_, fun t ht c => ?_⟩⟩
  · rw [exec_asil, execAsil_of_admits s p hadmits, Alarm.hushed_flagData, Alarm.hushed_eq]
    rfl
  · rw [exec_asil, execAsil_of_admits s p hadmits, s.alarm.hushed_of_off hoff hnext hpart]
    simp only [Alarm.flagData, hoff]
    rfl
  · rw [State.alarmEvent_alarm, State.alarmActive_alarm, alarm_of_exec_asil s t p hadmits ht]
    obtain ⟨hevent, heventNext⟩ := s.alarm.hushed.event_sounds c s.alarm.hushed_silent
    exact ⟨hevent, heventNext, fun hoff =>
      s.alarm.hushed.setActive_sounds c (s.alarm.hushed_flags_of_off c hoff) s.alarm.hushed_silent⟩

end Sys2Proof.Machine
end
